-- ==== Sys2Proof/Word.lean ====
section
/-! DEFINITION. The plain data of the block: bytes, the 32-bit command word, the decoded sample, the
device variant, and what the host presents in one operation. -/

namespace Sys2Proof

/-- One unsigned 8-bit value of a frame (R40). -/
abbrev Byte := BitVec 8

/-- A command word (R65). -/
abbrev Word := BitVec 32

/-- A 12-bit position, 0..4095 (R7, R83). -/
abbrev Position := BitVec 12

/-- A 6-bit weight, 0..63 (R7, R83). -/
abbrev Weight := BitVec 6

/-- `DeviceVariant` (R6, R25): a closed two-value tag. -/
inductive Variant where
  | wheel
  | sensor
  deriving DecidableEq, Repr

/-- A DecodedSample (R82): its type is exactly the range the decoder can produce (R83). -/
structure Sample where
  position : Position
  weight   : Weight
  pressed  : Bool
  deriving DecidableEq, Repr

/-- What the host presents in ONE operation (R60): a command word and the bytes that follow it, first
byte first (R66). Assumption log 3: the word is held as its 32 bits, so no byte order of it is chosen. -/
structure Presentation where
  word    : Word
  payload : List Byte
  deriving DecidableEq, Repr

end Sys2Proof
end

