-- ==== Sys2Proof/Config.lean ====
section
/-! DEFINITION. The fixed quantities of the block (R7) and the tokens its Variant Policy names (R114). The
spec leaves no result value open, so there is no free value here. -/

namespace Sys2Proof.Config

/-- Frame length: 6 bytes (R7, R40). -/
abbrev frameLength : Nat := 6

/-- The longest payload a CMD-P word can announce (R66). -/
abbrev maxPayload : Nat := 255

/-- Size of the wheel's circular position domain (R7). -/
abbrev wheelDomain : Int := 4096

/-- Half of the wheel's domain (R7). -/
abbrev halfDomain : Int := 2048

end Sys2Proof.Config

namespace Sys2Proof

/-- `AxisId`: one axis token per variant (R114). Which host axis it stands for is the event sink's concern
(assumption log 9). -/
inductive AxisId where
  | axisWheel
  | axisSensor
  deriving DecidableEq, Repr

/-- `ButtonId`: one button token per variant (R114; assumption log 9). -/
inductive ButtonId where
  | buttonWheel
  | buttonSensor
  deriving DecidableEq, Repr

end Sys2Proof
end

