-- ==== Sys2Proof/Syntax.lean ====
section
/-! DEFINITION. The instructions: one constructor per row of spec/opcode_table.json. -/

namespace Sys2Proof

/-- The operations of the interface. `frame48` and `sample` are the table's two further spellings of a
PROCESS with a 6-byte payload (R44, R75): their words decode to `process` (R73; assumption log 8). -/
inductive Instr where
  /-- ATTACH (R130), operands as CMD-A carries them (R67). -/
  | attach (variant : Variant) (weightThreshold : BitVec 8) (positionChangeThreshold : BitVec 12)
      (movementBitshift : BitVec 4)
  /-- PROCESS (R133) with its payload, first byte first (R66). -/
  | process (payload : List Byte)
  /-- DETACH (R140). -/
  | detach
  /-- RESERVED: a word with operation code 0b00, and its other 30 bits (R69). -/
  | reserved (rest : BitVec 30)
  /-- FRAME48: a PROCESS whose payload is one frame, byte by byte (R61). -/
  | frame48 (b0 b1 b2 b3 b4 b5 : Byte)
  /-- SAMPLE (R75): a PROCESS of the well-formed frame with these fields. -/
  | sample (weight : Weight) (position : Position) (pressed : Bool)
  deriving DecidableEq, Repr

end Sys2Proof
end

