-- ==== Sys2Proof/WellFormed.lean ====
section
/-! DEFINITION. Which instructions the encoding can carry. The operands' widths are in their types, so the
one check is the length of a PROCESS payload. -/

namespace Sys2Proof

/-- An instruction some presentation carries: a payload has at most 255 bytes (R66, R133). -/
def wellFormed : Instr → Bool
  | .attach _ _ _ _ => true
  | .process payload => decide (payload.length ≤ Config.maxPayload)
  | .detach => true
  | .reserved _ => true
  | .frame48 _ _ _ _ _ _ => true
  | .sample _ _ _ => true

end Sys2Proof
end

