-- ==== Sys2Proof/Decode.lean ====
section
/-! DEFINITION. The command decoder (R73), its encoder from the same tables (R65 to R68, R75), and the words
of spec/opcode_table.json laid out as presentations. -/

namespace Sys2Proof

/-- Why a presentation is no instruction of the table. -/
inductive DecodeError where
  /-- A reserved bit of CMD-A, CMD-P or CMD-D is 1: refused `ReservedBits` (R69). -/
  | reservedBits
  /-- The payload is not the number of bytes the word announces: no operation of the spec
  (R66; assumption log 6). -/
  | payloadMismatch
  deriving DecidableEq, Repr

/-- The variant's code (R25): Wheel 0, Sensor 1. -/
def variantCode : Variant → BitVec 1
  | .wheel => 0#1
  | .sensor => 1#1

/-- The variant of a code; every code is legal (R25). -/
def variantOf (c : BitVec 1) : Variant := if c = 0#1 then .wheel else .sensor

/-- `cmd[31:30]`, the operation code (R65). -/
def opOf (w : Word) : BitVec 2 := w.extractLsb' 30 2

/-- How many payload bytes follow the word: `len` of a CMD-P word (R66), none after any other. -/
def announcedLength (w : Word) : Nat :=
  if opOf w = 0b10#2 then (w.extractLsb' 0 8).toNat else 0

/-- A word with operation code 0b01 (R67, R73). -/
def decodeAttach (p : Presentation) : Except DecodeError Instr :=
  if p.word.extractLsb' 1 5 ≠ 0#5 then .error .reservedBits
  else if p.payload ≠ [] then .error .payloadMismatch
  else .ok (.attach (variantOf (p.word.extractLsb' 0 1)) (p.word.extractLsb' 6 8)
    (p.word.extractLsb' 14 12) (p.word.extractLsb' 26 4))

/-- A word with operation code 0b10, and the payload that follows it (R66, R73). -/
def decodeProcess (p : Presentation) : Except DecodeError Instr :=
  if p.word.extractLsb' 8 22 ≠ 0#22 then .error .reservedBits
  else if p.payload.length ≠ (p.word.extractLsb' 0 8).toNat then .error .payloadMismatch
  else .ok (.process p.payload)

/-- A word with operation code 0b11 (R68, R73). -/
def decodeDetach (p : Presentation) : Except DecodeError Instr :=
  if p.word.extractLsb' 0 30 ≠ 0#30 then .error .reservedBits
  else if p.payload ≠ [] then .error .payloadMismatch
  else .ok .detach

/-- The command decoder (R73). A word with operation code 0b00 is the table's row RESERVED, whatever is
presented with it (R152: the checks of the command word come first; assumption log 7). -/
def decode (p : Presentation) : Except DecodeError Instr :=
  if opOf p.word = 0b00#2 then .ok (.reserved (p.word.extractLsb' 0 30))
  else if opOf p.word = 0b01#2 then decodeAttach p
  else if opOf p.word = 0b10#2 then decodeProcess p
  else decodeDetach p

/-- The frame a SAMPLE stands for (R75): marker `1 0` and weight, high nibble, low byte, 0, press, 0. -/
def sampleBytes (weight : Weight) (position : Position) (pressed : Bool) : List Byte :=
  [0x80#8 ||| weight.setWidth 8, (position >>> 8).setWidth 8, (position &&& 0x0FF#12).setWidth 8,
    0x00#8, if pressed then 0x01#8 else 0x00#8, 0x00#8]

/-- The core operation an instruction stands for: a FRAME48 and a SAMPLE are a PROCESS (R75, R76). -/
def coreOf : Instr → Instr
  | .attach v wt pct shift => .attach v wt pct shift
  | .process payload => .process payload
  | .detach => .detach
  | .reserved rest => .reserved rest
  | .frame48 b0 b1 b2 b3 b4 b5 => .process [b0, b1, b2, b3, b4, b5]
  | .sample weight position pressed => .process (sampleBytes weight position pressed)

/-- The CMD-A word (R67): the match value, and the fields at bits 29:26, 25:14, 13:6 and 0. -/
def attachWord (v : Variant) (wt : BitVec 8) (pct : BitVec 12) (shift : BitVec 4) : Word :=
  0x40000000#32 ||| (shift.setWidth 32 <<< 26) ||| (pct.setWidth 32 <<< 14) ||| (wt.setWidth 32 <<< 6)
    ||| (variantCode v).setWidth 32

/-- The CMD-P word that announces `len` bytes (R66): the match value, and `len` at bits 7:0. -/
def processWord (len : BitVec 8) : Word := 0x80000000#32 ||| len.setWidth 32

/-- The CMD-D word (R68). -/
def detachWord : Word := 0xC0000000#32

/-- A word with operation code 0b00 and these other bits (R69). -/
def reservedWord (rest : BitVec 30) : Word := rest.setWidth 32

/-- A PROCESS of these bytes, as the host presents it (R60, R66). -/
def presentPayload (payload : List Byte) : Presentation :=
  { word := processWord (BitVec.ofNat 8 payload.length), payload := payload }

/-- The presentation that carries an instruction. -/
def encode : Instr → Presentation
  | .attach v wt pct shift => { word := attachWord v wt pct shift, payload := [] }
  | .process payload => presentPayload payload
  | .detach => { word := detachWord, payload := [] }
  | .reserved rest => { word := reservedWord rest, payload := [] }
  | .frame48 b0 b1 b2 b3 b4 b5 => presentPayload [b0, b1, b2, b3, b4, b5]
  | .sample weight position pressed => presentPayload (sampleBytes weight position pressed)

/-- `n` bytes of a number, the least significant first. -/
def bytesOf : Nat → Nat → List Byte
  | 0, _ => []
  | n + 1, w => BitVec.ofNat 8 w :: bytesOf n (w / 256)

/-- The presentation of a table row's bits: the command word is bits 31..0 and payload byte `k` is bits
`39+8k .. 32+8k`; every bit above `nbits` is 0. The 48-bit row FRAME48 has no command word of its own: it is
the payload of a CMD-P word with `len = 6` (assumption log 11). -/
def presentationOfTable (nbits w : Nat) : Presentation :=
  let bits := w % 2 ^ nbits
  if nbits = 48 then presentPayload (bytesOf 6 bits)
  else
    let word := BitVec.ofNat 32 bits
    { word := word, payload := bytesOf (announcedLength word) (bits / 2 ^ 32) }

/-- What the decoder reads from a table row's bits. -/
def decodeTableWord (nbits w : Nat) : Option Instr :=
  match decode (presentationOfTable nbits w) with
  | .ok i => some i
  | .error _ => none

end Sys2Proof
end

