-- ==== Sys2Proof/Machine/State.lean ====
section
/-! DEFINITION. The state of one device (R20), what an operation returns (R34, R70, R71), the reasons a step
stops, and the power-on state (R170). -/

namespace Sys2Proof.Machine

/-- The configuration registers CR0 to CR3 (R25 to R28): written by ATTACH only. -/
structure DeviceConfig where
  variant                 : Variant
  weightThreshold         : BitVec 8
  positionChangeThreshold : BitVec 12
  movementBitshift        : BitVec 4
  deriving DecidableEq, Repr

/-- TrackerState (R20, R22 to R24). -/
structure TrackerState where
  touching          : Bool
  referencePosition : Position
  pressLatched      : Bool
  deriving DecidableEq, Repr

/-- Everything that exists between an ATTACH and the next DETACH (R21). -/
structure Device where
  config  : DeviceConfig
  tracker : TrackerState
  deriving DecidableEq, Repr

/-- `life` (R21). The configuration and the TrackerState stand inside `attached`, because for a Detached
device "the field does not exist" and a model must not read it (R35; assumption log 1). -/
inductive Lifecycle where
  | detached
  | attached (device : Device)
  deriving DecidableEq, Repr

/-- The status an operation returns (R71). -/
inductive Status where
  | ok
  | malformedFrame
  deriving DecidableEq, Repr

/-- An event record (R70). The delta is a mathematical integer (R96; assumption log 10). -/
inductive Event where
  | motion (axis : AxisId) (delta : Int)
  | press (button : ButtonId) (pressed : Bool)
  deriving DecidableEq, Repr

/-- The closed list of the spec's refusal reasons (R155). -/
inductive RefusalReason where
  | reservedOp
  | reservedBits
  | notAttached
  | alreadyAttached
  deriving DecidableEq, Repr

/-- The result of one operation as the run observes it (R142): a refusal reason, or a status and the
ordered events. -/
inductive OpResult where
  | refused (reason : RefusalReason)
  | done (status : Status) (events : List Event)
  deriving DecidableEq, Repr

/-- One device and the run it is in. `life` is all the block's own state (R20); `pending` and `observed` are
the model's bookkeeping of the host interface (assumption log 3 and 4). -/
structure State where
  /-- R21, and inside it every register of R20. -/
  life     : Lifecycle
  /-- The operations the host has presented and the block has not yet taken, oldest first (R48). -/
  pending  : List Presentation
  /-- The results of the operations so far, oldest first (R142). -/
  observed : List OpResult
  deriving DecidableEq, Repr

/-- Why the model stops. None of these is an event of the block: it has no trap (R153). -/
inductive Fault where
  /-- Raised by `step` when the host has presented nothing: the run has ended (R142). Safe: the model
  stops where nothing happens (assumption log 5). -/
  | noOperation
  /-- Raised by `stepDevice` (Machine/Instances.lean) for a device that is not in the list. Safe: no such
  device exists (assumption log 13). -/
  | noSuchDevice
  deriving DecidableEq, Repr

/-- Why the model gives a step no meaning. The refusals of R155 are not here: such an operation ends in a
next state that records its reason (assumption log 2). -/
inductive Refusal where
  /-- Raised by `exec` for an instruction without a meaning; no arm does so. Safe. -/
  | notModelled (mnemonic : String)
  /-- Raised by `step` for a presentation whose payload is not the announced number of bytes: no operation
  of the spec. Safe: the model stops (assumption log 6). -/
  | payloadMismatch
  deriving DecidableEq, Repr

/-- Power-on (R170): Detached; nothing presented, nothing observed. -/
def State.reset : State := { life := .detached, pending := [], observed := [] }

end Sys2Proof.Machine
end

