-- ==== Sys2Proof/Machine/Ops.lean ====
section
/-! DEFINITION. The named operations over the state: recording a result, refusing, reporting the malformed
frame, and taking the next operation the host presents. The block has no trap to take and no memory to
access (R31, R153). -/

namespace Sys2Proof.Machine

/-- `life` replaced. -/
def State.setLife (s : State) (l : Lifecycle) : State := { s with life := l }

/-- A result added to the observation (R142). -/
def State.record (s : State) (r : OpResult) : State := { s with observed := s.observed ++ [r] }

/-- The operation takes effect and returns a status and events (R34). -/
def State.complete (s : State) (status : Status) (events : List Event) : State :=
  s.record (.done status events)

/-- `refuse R` (R155): no effect, no status and no event; the reason joins the refusal mark, and later
operations are processed as usual (assumption log 2). -/
def State.refuse (s : State) (reason : RefusalReason) : State := s.record (.refused reason)

/-- The one error of the block (R150): a status, no events, nothing else written. -/
def State.reportMalformed (s : State) : State := s.complete .malformedFrame []

/-- The refusal reason of a result, if it is a refusal. -/
def OpResult.reason? : OpResult → Option RefusalReason
  | .refused reason => some reason
  | .done _ _ => none

/-- The run's refusal mark (R155): the reasons named so far, oldest first. -/
def State.refusals (s : State) : List RefusalReason := s.observed.filterMap OpResult.reason?

/-- An operation that needs an Attached device: `NotAttached` otherwise (R156). -/
def whenAttached (s : State) (effect : Device → State) : State :=
  match s.life with
  | .detached => s.refuse .notAttached
  | .attached d => effect d

/-- The next operation in the order the host presents them (R48), and the state without it. -/
def fetch (s : State) : Except Fault (Presentation × State) :=
  match s.pending with
  | [] => .error .noOperation
  | p :: rest => .ok (p, { s with pending := rest })

/-- What becomes of a presentation that is no instruction: `ReservedBits` is refused (R69, R155); a payload
of another length than announced is no operation (assumption log 6). -/
def rejectPresentation (e : DecodeError) (s : State) : Host.Outcome State Fault Refusal :=
  match e with
  | .reservedBits => .next (s.refuse .reservedBits)
  | .payloadMismatch => .refused .payloadMismatch

/-- A presentation placed before all others: it is the next operation. -/
def State.presentNext (s : State) (p : Presentation) : State := { s with pending := p :: s.pending }

end Sys2Proof.Machine
end

