-- ==== Sys2Proof/Machine/Lifecycle.lean ====
section
/-! DEFINITION. The meanings of ATTACH and DETACH (R130, R131, R140), and of the reserved code (R69). -/

namespace Sys2Proof.Machine

/-- The TrackerState right after ATTACH, "zero/false-initialized" (R130, R171). -/
def freshTracker : TrackerState :=
  { touching := false, referencePosition := 0#12, pressLatched := false }

/-- ATTACH (R130); refused while Attached (R131). -/
def execAttach (v : Variant) (wt : BitVec 8) (pct : BitVec 12) (shift : BitVec 4) (s : State) :
    Host.Outcome State Fault Refusal :=
  match s.life with
  | .attached _ => .next (s.refuse .alreadyAttached)
  | .detached =>
    .next ((s.setLife (.attached
      { config :=
          { variant := v, weightThreshold := wt, positionChangeThreshold := pct,
            movementBitshift := shift },
        tracker := freshTracker })).complete .ok [])

/-- DETACH (R140): the TrackerState and the configuration cease to exist; no release event. -/
def execDetach (s : State) : Host.Outcome State Fault Refusal :=
  .next (whenAttached s fun _ => (s.setLife .detached).complete .ok [])

/-- A reserved operation code (R69): refused `ReservedOp`, whatever its other bits. -/
def execReserved (_rest : BitVec 30) (s : State) : Host.Outcome State Fault Refusal :=
  .next (s.refuse .reservedOp)

end Sys2Proof.Machine
end

