-- ==== Sys2Proof/Machine/Operands.lean ====
section
/-! DEFINITION. The Frame Decoder (R80 to R84): the operand fields of a frame. Pure, and the same for both
variants (R72). -/

namespace Sys2Proof.Machine

/-- `Failure(MalformedFrame)` of the decoder (R81). -/
inductive FrameFailure where
  | malformedFrame
  deriving DecidableEq, Repr

/-- `frame[0] & 0x3F` (R62). -/
def weightField (b0 : Byte) : Weight := (b0 &&& 0x3F#8).setWidth 6

/-- `((frame[1] & 0x0F) << 8) | frame[2]` (R42, R62). -/
def positionField (b1 b2 : Byte) : Position :=
  ((b1 &&& 0x0F#8).setWidth 12 <<< 8) ||| b2.setWidth 12

/-- `frame[4] != 0`: the whole byte is tested (R62, R63). -/
def pressedField (b4 : Byte) : Bool := decide (b4 ≠ 0#8)

/-- Field extraction (R82). Bytes 3 and 5 are not decoded (R41). -/
def decode6 (b0 b1 b2 b4 : Byte) : Sample :=
  { position := positionField b1 b2, weight := weightField b0, pressed := pressedField b4 }

/-- The Frame Decoder (R81): it fails exactly on a payload that is not six bytes. -/
def decodeFrame : List Byte → Except FrameFailure Sample
  | [b0, b1, b2, _, b4, _] => .ok (decode6 b0 b1 b2 b4)
  | _ => .error .malformedFrame

end Sys2Proof.Machine
end

