-- ==== Sys2Proof/Machine/VariantPolicy.lean ====
section
/-! DEFINITION. The Variant Policy (R110 to R116): the position difference and the tokens of a variant. -/

namespace Sys2Proof.Machine

/-- The naive difference, in [-4095, 4095] (R96). -/
def naiveDiff (p r : Position) : Int := (p.toNat : Int) - (r.toNat : Int)

/-- Linear domain: no correction (R111). -/
def diffSensor (p r : Position) : Int := naiveDiff p r

/-- Circular domain of size 4096 (R112). The lower test is `≤ -2048`, as spec/90_conflicts.md C1 settles. -/
def diffWheel (p r : Position) : Int :=
  if naiveDiff p r > Config.halfDomain then naiveDiff p r - Config.wheelDomain
  else if naiveDiff p r ≤ -Config.halfDomain then naiveDiff p r + Config.wheelDomain
  else naiveDiff p r

/-- Difference dispatch (R110). -/
def diff (v : Variant) (p r : Position) : Int :=
  match v with
  | .sensor => diffSensor p r
  | .wheel => diffWheel p r

/-- The axis token of a variant (R114). -/
def axisOf : Variant → AxisId
  | .wheel => .axisWheel
  | .sensor => .axisSensor

/-- The button token of a variant (R114). -/
def buttonOf : Variant → ButtonId
  | .wheel => .buttonWheel
  | .sensor => .buttonSensor

end Sys2Proof.Machine
end

