-- ==== Sys2Proof/Machine/Flags.lean ====
section
/-! DEFINITION. What decides and changes the block's two flags (R32): the debounce test behind `touching`
(R90) and the edge detector that writes `pressLatched` (R120). -/

namespace Sys2Proof.Machine

/-- Debounce (R90): `weight >= weightThreshold`, unsigned. -/
def above (c : DeviceConfig) (x : Sample) : Bool :=
  decide (c.weightThreshold.toNat ≤ x.weight.toNat)

/-- PRESS_EDGE (R120): the press event, if any, and the new latch. -/
def pressEdge (v : Variant) (latched pressed : Bool) : Option Event × Bool :=
  if pressed ≠ latched then (some (.press (buttonOf v) pressed), pressed) else (none, latched)

end Sys2Proof.Machine
end

