-- ==== Sys2Proof/Machine/Tracker.lean ====
section
/-! DEFINITION. The Motion Tracker (R90 to R102): case selection, the four cases, and the scale. -/

namespace Sys2Proof.Machine

/-- Scale (R93): the magnitude is shifted and the sign put back, so it truncates toward zero. -/
def scale (raw : Int) (k : Nat) : Int := raw.sign * ((raw.natAbs >>> k : Nat) : Int)

/-- The difference from the reference position, before threshold and scale (R92, R110). -/
def rawDelta (c : DeviceConfig) (t : TrackerState) (x : Sample) : Int :=
  diff c.variant x.position t.referencePosition

/-- The strict position-change threshold (R92). -/
def crosses (c : DeviceConfig) (raw : Int) : Bool :=
  decide (c.positionChangeThreshold.toNat < raw.natAbs)

/-- Case 1, touch begin (R91). -/
def touchBegin (t : TrackerState) (x : Sample) : Option Event × TrackerState :=
  (none, { t with touching := true, referencePosition := x.position })

/-- Case 2, touch continue (R92): an event and a new reference, or neither. -/
def touchContinue (c : DeviceConfig) (t : TrackerState) (x : Sample) : Option Event × TrackerState :=
  if crosses c (rawDelta c t x) then
    (some (.motion (axisOf c.variant) (scale (rawDelta c t x) c.movementBitshift.toNat)),
      { t with referencePosition := x.position })
  else (none, t)

/-- Case 3, touch end (R94): the reference is not written. -/
def touchEnd (t : TrackerState) : Option Event × TrackerState :=
  (none, { t with touching := false })

/-- Case 4, no touch, no change (R95). -/
def noTouch (t : TrackerState) : Option Event × TrackerState := (none, t)

/-- Case selection on the state before the sample (R90). -/
def track (c : DeviceConfig) (t : TrackerState) (x : Sample) : Option Event × TrackerState :=
  match t.touching, above c x with
  | false, true => touchBegin t x
  | true, true => touchContinue c t x
  | true, false => touchEnd t
  | false, false => noTouch t

/-- The tracker and then the edge detector on one sample (R133): the events, motion before press (R135),
and the device afterwards. The configuration is never written. -/
def processSample (d : Device) (x : Sample) : List Event × Device :=
  let (motion, tracked) := track d.config d.tracker x
  let (press, latch) := pressEdge d.config.variant tracked.pressLatched x.pressed
  (motion.toList ++ press.toList, { d with tracker := { tracked with pressLatched := latch } })

end Sys2Proof.Machine
end

