-- ==== Sys2Proof/Machine/Process.lean ====
section
/-! DEFINITION. The meanings of PROCESS and of its two further spellings FRAME48 and SAMPLE (R133, R75, R82). -/

namespace Sys2Proof.Machine

/-- One sample taken by an Attached device: its new state, status OK and its events (R133). -/
def takeSample (s : State) (d : Device) (x : Sample) : State :=
  (s.setLife (.attached (processSample d x).2)).complete .ok (processSample d x).1

/-- PROCESS of a payload (R133): NotAttached, then the length check, then the sample (R152). -/
def processPayload (payload : List Byte) (s : State) : State :=
  whenAttached s fun d =>
    match decodeFrame payload with
    | .error .malformedFrame => s.reportMalformed
    | .ok x => takeSample s d x

/-- PROCESS (R133). -/
def execProcess (payload : List Byte) (s : State) : Host.Outcome State Fault Refusal :=
  .next (processPayload payload s)

/-- FRAME48 (R61, R82): the PROCESS of this frame. -/
def execFrame48 (b0 b1 b2 b3 b4 b5 : Byte) (s : State) : Host.Outcome State Fault Refusal :=
  .next (processPayload [b0, b1, b2, b3, b4, b5] s)

/-- SAMPLE (R75): the PROCESS of the frame it expands to. -/
def execSample (weight : Weight) (position : Position) (pressed : Bool) (s : State) :
    Host.Outcome State Fault Refusal :=
  .next (processPayload (sampleBytes weight position pressed) s)

end Sys2Proof.Machine
end

