-- ==== Sys2Proof/Machine/Dispatch.lean ====
section
/-! DEFINITION. One arm per instruction, each a direct call of its meaning. -/

namespace Sys2Proof.Machine

def exec (i : Instr) (s : State) : Host.Outcome State Fault Refusal :=
  match i with
  | .attach v wt pct shift => Sys2Proof.Machine.execAttach v wt pct shift s
  | .process payload => Sys2Proof.Machine.execProcess payload s
  | .detach => Sys2Proof.Machine.execDetach s
  | .reserved rest => Sys2Proof.Machine.execReserved rest s
  | .frame48 b0 b1 b2 b3 b4 b5 => Sys2Proof.Machine.execFrame48 b0 b1 b2 b3 b4 b5 s
  | .sample weight position pressed => Sys2Proof.Machine.execSample weight position pressed s

end Sys2Proof.Machine
end

