-- ==== Sys2Proof/Machine/Step.lean ====
section
/-! DEFINITION. One step of the block: it takes the next operation the host presents and carries it out (R3,
R48). Assumption log 3 says how operations come to run from reset. -/

namespace Sys2Proof.Machine

/-- One interface operation is one atomic step (R3, R45). -/
def step (s : State) : Host.Outcome State Fault Refusal :=
  match fetch s with
  | .error f => .fault f
  | .ok (p, t) =>
    match decode p with
    | .error e => rejectPresentation e t
    | .ok i => exec i t

/-- The state with a table row's bits presented as the very next operation. -/
def State.withFetchWord (s : State) (nbits w : Nat) : State :=
  s.presentNext (presentationOfTable nbits w)

end Sys2Proof.Machine
end

