-- ==== Sys2Proof/Machine/Assembler.lean ====
section
/-! DEFINITION. The textual form of the operations (R74, R75). It never reaches a step: it turns a line of
text into an instruction. Assumption log 15 says which blanks it allows. -/

namespace Sys2Proof.Machine

/-- A space or a tab. -/
def isBlank (c : Char) : Bool := c == ' ' || c == '\t'

/-- The text without its outer blanks. -/
def trimBlanks (cs : List Char) : List Char :=
  ((cs.dropWhile isBlank).reverse.dropWhile isBlank).reverse

/-- The pieces of a text between commas. -/
def splitCommas : List Char → List (List Char)
  | [] => [[]]
  | c :: cs =>
    if c = ',' then [] :: splitCommas cs
    else
      match splitCommas cs with
      | [] => [[c]]
      | piece :: more => (c :: piece) :: more

/-- The operands of a line: none for an empty text. -/
def operandsOf (cs : List Char) : List (List Char) :=
  match trimBlanks cs with
  | [] => []
  | text => (splitCommas text).map trimBlanks

/-- The value of a digit, decimal or hexadecimal. -/
def digitValue (c : Char) : Option Nat :=
  let n := c.toNat
  if 48 ≤ n ∧ n ≤ 57 then some (n - 48)
  else if 97 ≤ n ∧ n ≤ 102 then some (n - 87)
  else if 65 ≤ n ∧ n ≤ 70 then some (n - 55)
  else none

/-- The number a text of digits of this base stands for, after the value read so far. -/
def readDigits (base : Nat) : Nat → List Char → Option Nat
  | n, [] => some n
  | n, c :: cs =>
    match digitValue c with
    | none => none
    | some d => if d < base then readDigits base (base * n + d) cs else none

/-- A number: decimal, or hexadecimal after `0x` (R74). -/
def readNumber : List Char → Option Nat
  | [] => none
  | '0' :: 'x' :: [] => none
  | '0' :: 'x' :: c :: cs => readDigits 16 0 (c :: cs)
  | cs => readDigits 10 0 cs

/-- A number of a bounded range. -/
def readBelow (limit : Nat) (cs : List Char) : Option Nat :=
  match readNumber cs with
  | none => none
  | some n => if n < limit then some n else none

/-- The value of an operand `<key>=<number>` of a bounded range. -/
def readField (key : List Char) (limit : Nat) (cs : List Char) : Option Nat :=
  if cs.take (key.length + 1) = key ++ ['='] then readBelow limit (cs.drop (key.length + 1)) else none

/-- The variant's name (R74). -/
def readVariant (cs : List Char) : Option Variant :=
  if cs = ['W', 'h', 'e', 'e', 'l'] then some .wheel
  else if cs = ['S', 'e', 'n', 's', 'o', 'r'] then some .sensor
  else none

/-- The payload bytes of a PROCESS line. -/
def readBytes : List (List Char) → Option (List Byte)
  | [] => some []
  | t :: ts =>
    match readBelow 256 t, readBytes ts with
    | some n, some bytes => some (BitVec.ofNat 8 n :: bytes)
    | _, _ => none

/-- The operands of an ATTACH line. -/
def readAttach : List (List Char) → Option Instr
  | [v, wt, pct, shift] =>
    match readVariant v, readField ['w', 't'] 256 wt, readField ['p', 'c', 't'] 4096 pct,
        readField ['s', 'h', 'i', 'f', 't'] 16 shift with
    | some v, some wt, some pct, some shift =>
      some (.attach v (BitVec.ofNat 8 wt) (BitVec.ofNat 12 pct) (BitVec.ofNat 4 shift))
    | _, _, _, _ => none
  | _ => none

/-- The operands of a PROCESS line: 0 to 255 bytes (R74). -/
def readProcess (operands : List (List Char)) : Option Instr :=
  match readBytes operands with
  | none => none
  | some bytes => if bytes.length ≤ Config.maxPayload then some (.process bytes) else none

/-- The operands of a SAMPLE line (R75). -/
def readSample : List (List Char) → Option Instr
  | [w, pos, p] =>
    match readField ['w'] 64 w, readField ['p', 'o', 's'] 4096 pos, readField ['p'] 2 p with
    | some w, some pos, some p =>
      some (.sample (BitVec.ofNat 6 w) (BitVec.ofNat 12 pos) (decide (p = 1)))
    | _, _, _ => none
  | _ => none

/-- A line of text as an instruction (R74, R75); the mnemonic's case does not matter. -/
def assemble (line : List Char) : Option Instr :=
  let text := trimBlanks line
  let mnemonic := (text.takeWhile fun c => !isBlank c).map Char.toLower
  let operands := operandsOf (text.dropWhile fun c => !isBlank c)
  if mnemonic = ['a', 't', 't', 'a', 'c', 'h'] then readAttach operands
  else if mnemonic = ['p', 'r', 'o', 'c', 'e', 's', 's'] then readProcess operands
  else if mnemonic = ['s', 'a', 'm', 'p', 'l', 'e'] then readSample operands
  else if mnemonic = ['d', 'e', 't', 'a', 'c', 'h'] ∧ operands = [] then some .detach
  else none

end Sys2Proof.Machine
end

