-- ==== Sys2Proof/Machine/Instances.lean ====
section
/-! DEFINITION. Several devices: a product of independent copies of the block (R8, R47, R161). -/

namespace Sys2Proof.Machine

/-- One operation on device `k` of a list of devices: only that device's own state is read and written
(R47). -/
def stepDevice (k : Nat) (devices : List State) : Host.Outcome (List State) Fault Refusal :=
  match devices[k]? with
  | none => .fault .noSuchDevice
  | some s =>
    match step s with
    | .next t => .next (devices.set k t)
    | .fault f => .fault f
    | .refused r => .refused r

end Sys2Proof.Machine
end

