-- ==== Sys2Proof/Machine/Records.lean ====
section
/-! DEFINITION. The output records and status codes on the interface (R70, R71, R115). -/

namespace Sys2Proof.Machine

/-- The 1-bit axis token: the variant's code (R115). -/
def axisCode : AxisId → BitVec 1
  | .axisWheel => 0#1
  | .axisSensor => 1#1

/-- The 1-bit button token: the variant's code (R115). -/
def buttonCode : ButtonId → BitVec 1
  | .buttonWheel => 0#1
  | .buttonSensor => 1#1

/-- The axis token of a code. -/
def axisOfCode (c : BitVec 1) : AxisId := if c = 0#1 then .axisWheel else .axisSensor

/-- The button token of a code. -/
def buttonOfCode (c : BitVec 1) : ButtonId := if c = 0#1 then .buttonWheel else .buttonSensor

/-- The 16-bit record of an event (R70): bit 15 the kind, bit 14 the token, bit 13 zero, and bits 12:0 a
two's-complement delta, or the press value in bit 0. -/
def eventWord : Event → BitVec 16
  | .motion axis delta => ((axisCode axis).setWidth 16 <<< 14) ||| (BitVec.ofInt 13 delta).setWidth 16
  | .press button pressed =>
    0x8000#16 ||| ((buttonCode button).setWidth 16 <<< 14) ||| (if pressed then 1#16 else 0#16)

/-- The event a record stands for; none for a word that R70 gives no event. -/
def eventOfWord (w : BitVec 16) : Option Event :=
  if w.extractLsb' 13 1 ≠ 0#1 then none
  else if w.extractLsb' 15 1 = 0#1 then
    some (.motion (axisOfCode (w.extractLsb' 14 1)) (w.extractLsb' 0 13).toInt)
  else if w.extractLsb' 1 12 ≠ 0#12 then none
  else some (.press (buttonOfCode (w.extractLsb' 14 1)) (decide (w.extractLsb' 0 1 = 1#1)))

/-- The status codes (R71). -/
def statusCode : Status → Nat
  | .ok => 0
  | .malformedFrame => 1

/-- What an operation returns on the interface (R60): a status code and the records in order; a refused
operation returns nothing (R71). -/
def returned : OpResult → Option (Nat × List (BitVec 16))
  | .refused _ => none
  | .done status events => some (statusCode status, events.map eventWord)

end Sys2Proof.Machine
end

