-- ==== Sys2Proof/Safety.lean ====
section
/-! DEFINITION. The terms claims are stated in: a clear refusal mark, a host that keeps the interface's
shape, legal results, runs of samples, and the source's sequential reading of the tracker's rules. -/

namespace Sys2Proof.Machine

/-- No operation of the run so far was refused (R155). -/
def MarkClear (s : State) : Prop := s.refusals = []

/-- The host presents exactly the payload the word announces (R66, R178). -/
def WellPresented (p : Presentation) : Prop := p.payload.length = announcedLength p.word

/-- A word of CMD-A, CMD-P or CMD-D with a nonzero reserved bit (R69): bits 5:1, 29:8 and 29:0 (R66 to
R68). -/
def ReservedBitSet (w : Word) : Prop :=
  (opOf w = 0b01#2 ∧ w &&& 0x0000003E#32 ≠ 0#32) ∨
  (opOf w = 0b10#2 ∧ w &&& 0x3FFFFF00#32 ≠ 0#32) ∨
  (opOf w = 0b11#2 ∧ w &&& 0x3FFFFFFF#32 ≠ 0#32)

/-- The deltas a variant can report (R96): no larger than its differences, so the 13-bit field of the record
holds them (R70). -/
def DeltaInRange : Variant → Int → Prop
  | .wheel, delta => -2047 ≤ delta ∧ delta ≤ 2048
  | .sensor, delta => -4095 ≤ delta ∧ delta ≤ 4095

/-- The event lists an operation on a device of variant `v` can return (R135, R70), with that variant's
tokens (R114): `[]`, `[Motion]`, `[Press]` or `[Motion, Press]`. -/
def LegalEvents (v : Variant) (events : List Event) : Prop :=
  events = [] ∨
  (∃ delta, DeltaInRange v delta ∧ events = [.motion (axisOf v) delta]) ∨
  (∃ pressed, events = [.press (buttonOf v) pressed]) ∨
  (∃ delta pressed, DeltaInRange v delta ∧
    events = [.motion (axisOf v) delta, .press (buttonOf v) pressed])

/-- A result the spec lets an operation have: a malformed frame comes with no event (R150). -/
def LegalResult : OpResult → Prop
  | .refused _ => True
  | .done .ok events => ∃ v, LegalEvents v events
  | .done .malformedFrame events => events = []

/-- The invariant of the observation: every result in it is one the spec allows. -/
def ObservationLegal (s : State) : Prop := ∀ r ∈ s.observed, LegalResult r

/-- The samples of a run, one after the other: the event list of each, and the device afterwards (R48). -/
def runSamples : Device → List Sample → List (List Event) × Device
  | d, [] => ([], d)
  | d, x :: xs =>
    ((processSample d x).1 :: (runSamples (processSample d x).2 xs).1,
      (runSamples (processSample d x).2 xs).2)

/-- The press value of an event, if it is a press event. -/
def pressValue? : Event → Option Bool
  | .motion _ _ => none
  | .press _ pressed => some pressed

/-- The press events of a sample, as R120 gives them: one where `pressed` differs from the latch. -/
def pressEvents (v : Variant) (latched pressed : Bool) : List Event :=
  if pressed = latched then [] else [.press (buttonOf v) pressed]

/-- Whether an event is a motion event. -/
def isMotion : Event → Bool
  | .motion _ _ => true
  | .press _ _ => false

/-- PROCESS of one sample with the edge detector run before the tracker (R133: either order gives the same
state); the events keep their order (R135). -/
def processPressFirst (d : Device) (x : Sample) : List Event × Device :=
  let (press, latch) := pressEdge d.config.variant d.tracker.pressLatched x.pressed
  let (motion, tracked) := track d.config { d.tracker with pressLatched := latch } x
  (motion.toList ++ press.toList, { d with tracker := tracked })

/-- The source's rules 1 to 4 read one after the other, each seeing what the ones before it wrote (R97):
a rule leaves the outcome alone where its condition does not hold. -/
def sequentialRule (condition : TrackerState → Bool) (effect : TrackerState → Option Event × TrackerState)
    (outcome : Option Event × TrackerState) : Option Event × TrackerState :=
  if condition outcome.2 then ((effect outcome.2).1.or outcome.1, (effect outcome.2).2) else outcome

/-- The sequential reading of the tracker (R97). -/
def trackSequential (c : DeviceConfig) (t : TrackerState) (x : Sample) : Option Event × TrackerState :=
  sequentialRule (fun u => !u.touching && !above c x) noTouch
    (sequentialRule (fun u => u.touching && !above c x) touchEnd
      (sequentialRule (fun u => u.touching && above c x) (fun u => touchContinue c u x)
        (sequentialRule (fun u => !u.touching && above c x) (fun u => touchBegin u x) (none, t))))

end Sys2Proof.Machine
end

