-- ==== Sys2Proof/Certificates/Slice0/Obligations.lean ====
section
/-! DEFINITION. The statements for the provers. Each docstring names the rule of spec/ it formalises.

The block has no memory (R31), so a frame is about the state alone: the next states below are record updates
of the state before, and every field not named is unchanged. What an operation returns is read at the end of
`observed`, which is how the model holds the observation of R142 (assumption log 4). A clause that an operation
is refused gives R155's words (no effect, the reason added to the mark) in the form of assumption log 2, a next
state; such a statement is derived. -/

open Sys2Proof Sys2Proof.Machine

/-! ## Reset and the lifecycle -/

/-- R170: an instance begins Detached; no TrackerState and no configuration exist (they are arguments of
`attached`). -/
def Obligations.PowerOnIsDetached : Prop := State.reset.life = .detached

/-- Derived (95 §3, R142; assumption log 3 and 4 for the two lists): the run begins with nothing presented,
nothing observed, a clear mark and a legal observation. -/
def Obligations.PowerOnMeetsObservationInvariant : Prop :=
  State.reset.pending = [] ∧ State.reset.observed = [] ∧ MarkClear State.reset ∧
    ObservationLegal State.reset

/-- R171 (and the effect of R130): ATTACH of a Detached device writes every field, the TrackerState
"zero/false-initialized" and the configuration from its operands, and returns OK with no events. -/
def Obligations.AttachInitialisesEveryField : Prop :=
  ∀ (v : Variant) (wt : BitVec 8) (pct : BitVec 12) (shift : BitVec 4) (s : State),
    s.life = .detached →
    exec (.attach v wt pct shift) s = .next { s with
      life := .attached
        { config := { variant := v, weightThreshold := wt, positionChangeThreshold := pct,
                      movementBitshift := shift },
          tracker := { touching := false, referencePosition := 0, pressLatched := false } },
      observed := s.observed ++ [.done .ok []] }

/-- Derived from R131, R155 (assumption log 2): ATTACH of an Attached device is refused `AlreadyAttached` and
changes nothing. -/
def Obligations.ReattachIsRefused : Prop :=
  ∀ (v : Variant) (wt : BitVec 8) (pct : BitVec 12) (shift : BitVec 4) (s : State) (d : Device),
    s.life = .attached d →
    exec (.attach v wt pct shift) s =
      .next { s with observed := s.observed ++ [.refused .alreadyAttached] }

/-- Derived from R140, R156 (assumption log 2 for the refusal): DETACH of an Attached device leaves it
Detached, OK, with no release event whatever the tracker held; of a Detached one it is refused `NotAttached`.
-/
def Obligations.DetachEndsDeviceOrIsRefused : Prop :=
  ∀ s : State,
    (∀ d, s.life = .attached d →
      exec .detach s =
        .next { s with life := .detached, observed := s.observed ++ [.done .ok []] }) ∧
    (s.life = .detached →
      exec .detach s = .next { s with observed := s.observed ++ [.refused .notAttached] })

/-- Derived from R69, R155 (assumption log 2), for the instruction RESERVED: refused `ReservedOp`, whatever
its other bits. -/
def Obligations.ReservedCodeIsRefused : Prop :=
  ∀ (rest : BitVec 30) (s : State),
    exec (.reserved rest) s = .next { s with observed := s.observed ++ [.refused .reservedOp] }

/-- Derived from R156, R155 (assumption log 2): PROCESS in each of its spellings, and DETACH, are refused
`NotAttached` while Detached, whatever the payload. -/
def Obligations.DetachedOperationsAreRefused : Prop :=
  ∀ s : State, s.life = .detached →
    (∀ payload, exec (.process payload) s =
      .next { s with observed := s.observed ++ [.refused .notAttached] }) ∧
    (∀ b0 b1 b2 b3 b4 b5, exec (.frame48 b0 b1 b2 b3 b4 b5) s =
      .next { s with observed := s.observed ++ [.refused .notAttached] }) ∧
    (∀ w pos p, exec (.sample w pos p) s =
      .next { s with observed := s.observed ++ [.refused .notAttached] }) ∧
    exec .detach s = .next { s with observed := s.observed ++ [.refused .notAttached] }

/-! ## PROCESS -/

/-- R150: a payload that is not six bytes returns `MALFORMED_FRAME` with no event, and the device is
untouched. -/
def Obligations.MalformedFrameLeavesDevice : Prop :=
  ∀ (s : State) (d : Device) (payload : List Byte), s.life = .attached d → payload.length ≠ 6 →
    exec (.process payload) s =
      .next { s with observed := s.observed ++ [.done .malformedFrame []] }

/-- R91 (with R120): touch begin. -/
def Obligations.TouchBeginTakesReference : Prop :=
  ∀ (s : State) (d : Device) (b0 b1 b2 b3 b4 b5 : Byte), s.life = .attached d →
    d.tracker.touching = false →
    d.config.weightThreshold.toNat ≤ (weightField b0).toNat →
    exec (.process [b0, b1, b2, b3, b4, b5]) s = .next { s with
      life := .attached { d with tracker :=
        { touching := true, referencePosition := positionField b1 b2, pressLatched := pressedField b4 } },
      observed := s.observed ++
        [.done .ok (pressEvents d.config.variant d.tracker.pressLatched (pressedField b4))] }

/-- R92 (with R120), touch continue: above the threshold one motion event, scaled, and the reference moves to
the sample's position; at or below it no motion event, and the reference is kept. -/
def Obligations.TouchContinueMovesOrAccumulates : Prop :=
  ∀ (s : State) (d : Device) (b0 b1 b2 b3 b4 b5 : Byte), s.life = .attached d →
    d.tracker.touching = true →
    d.config.weightThreshold.toNat ≤ (weightField b0).toNat →
    (d.config.positionChangeThreshold.toNat <
        (diff d.config.variant (positionField b1 b2) d.tracker.referencePosition).natAbs →
      exec (.process [b0, b1, b2, b3, b4, b5]) s = .next { s with
        life := .attached { d with tracker :=
          { touching := true, referencePosition := positionField b1 b2,
            pressLatched := pressedField b4 } },
        observed := s.observed ++
          [.done .ok (.motion (axisOf d.config.variant)
              (scale (diff d.config.variant (positionField b1 b2) d.tracker.referencePosition)
                d.config.movementBitshift.toNat) ::
            pressEvents d.config.variant d.tracker.pressLatched (pressedField b4))] }) ∧
    ((diff d.config.variant (positionField b1 b2) d.tracker.referencePosition).natAbs ≤
        d.config.positionChangeThreshold.toNat →
      exec (.process [b0, b1, b2, b3, b4, b5]) s = .next { s with
        life := .attached { d with tracker :=
          { touching := true, referencePosition := d.tracker.referencePosition,
            pressLatched := pressedField b4 } },
        observed := s.observed ++
          [.done .ok (pressEvents d.config.variant d.tracker.pressLatched (pressedField b4))] })

/-- R94 (with R120): touch end; the reference keeps its value. -/
def Obligations.TouchEndKeepsReference : Prop :=
  ∀ (s : State) (d : Device) (b0 b1 b2 b3 b4 b5 : Byte), s.life = .attached d →
    d.tracker.touching = true →
    (weightField b0).toNat < d.config.weightThreshold.toNat →
    exec (.process [b0, b1, b2, b3, b4, b5]) s = .next { s with
      life := .attached { d with tracker :=
        { touching := false, referencePosition := d.tracker.referencePosition,
          pressLatched := pressedField b4 } },
      observed := s.observed ++
        [.done .ok (pressEvents d.config.variant d.tracker.pressLatched (pressedField b4))] }

/-- R95 (with R120): no touch; only the press edge can show. -/
def Obligations.NoTouchChangesOnlyLatch : Prop :=
  ∀ (s : State) (d : Device) (b0 b1 b2 b3 b4 b5 : Byte), s.life = .attached d →
    d.tracker.touching = false →
    (weightField b0).toNat < d.config.weightThreshold.toNat →
    exec (.process [b0, b1, b2, b3, b4, b5]) s = .next { s with
      life := .attached { d with tracker :=
        { touching := false, referencePosition := d.tracker.referencePosition,
          pressLatched := pressedField b4 } },
      observed := s.observed ++
        [.done .ok (pressEvents d.config.variant d.tracker.pressLatched (pressedField b4))] }

/-- Derived from R82, R133, R76 (assumption log 8), for the FRAME48 spelling: it completes as the PROCESS of
its six bytes does, with the sample those bytes decode to. -/
def Obligations.Frame48IsProcessOfItsBytes : Prop :=
  ∀ (s : State) (b0 b1 b2 b3 b4 b5 : Byte),
    exec (.frame48 b0 b1 b2 b3 b4 b5) s = exec (.process [b0, b1, b2, b3, b4, b5]) s ∧
    ∀ d, s.life = .attached d →
      exec (.frame48 b0 b1 b2 b3 b4 b5) s = .next { s with
        life := .attached (processSample d
          { position := positionField b1 b2, weight := weightField b0, pressed := pressedField b4 }).2,
        observed := s.observed ++ [.done .ok (processSample d
          { position := positionField b1 b2, weight := weightField b0, pressed := pressedField b4 }).1] }

/-- R75: SAMPLE is the PROCESS of the frame it expands to, and that frame decodes to its own weight, position
and press flag. -/
def Obligations.SampleIsProcessOfItsFrame : Prop :=
  ∀ (s : State) (w : Weight) (pos : Position) (p : Bool),
    exec (.sample w pos p) s =
      exec (.process [BitVec.ofNat 8 (128 + w.toNat), BitVec.ofNat 8 (pos.toNat / 256),
        BitVec.ofNat 8 (pos.toNat % 256), 0, if p then 1 else 0, 0]) s ∧
    ∀ d, s.life = .attached d →
      exec (.sample w pos p) s = .next { s with
        life := .attached (processSample d { position := pos, weight := w, pressed := p }).2,
        observed := s.observed ++
          [.done .ok (processSample d { position := pos, weight := w, pressed := p }).1] }

/-- Derived from R133, R116: PROCESS never writes `life` or the configuration, in any of its spellings: an
Attached device stays Attached with its configuration, and one result is added. -/
def Obligations.ProcessKeepsConfiguration : Prop :=
  ∀ (s : State) (d : Device), s.life = .attached d →
    (∀ payload, ∃ tracker r, exec (.process payload) s = .next { s with
      life := .attached { d with tracker := tracker }, observed := s.observed ++ [r] }) ∧
    (∀ b0 b1 b2 b3 b4 b5, ∃ tracker r, exec (.frame48 b0 b1 b2 b3 b4 b5) s = .next { s with
      life := .attached { d with tracker := tracker }, observed := s.observed ++ [r] }) ∧
    (∀ w pos p, ∃ tracker r, exec (.sample w pos p) s = .next { s with
      life := .attached { d with tracker := tracker }, observed := s.observed ++ [r] })

/-- R102, R122 (in the order of R135): the events of a sample are `[]`, `[Motion]`, `[Press]` or `[Motion,
Press]`, with the tokens of the device's variant and a delta in that variant's range (R96). -/
def Obligations.EventListShape : Prop :=
  ∀ (d : Device) (x : Sample), LegalEvents d.config.variant (processSample d x).1

/-- R120: the press event depends on the latch and the press flag alone, whatever the touch state and the
weight, and the latch becomes the flag. -/
def Obligations.PressEdgeIgnoresTouch : Prop :=
  ∀ (d : Device) (x : Sample),
    (processSample d x).1.filter (fun e => !isMotion e) =
      pressEvents d.config.variant d.tracker.pressLatched x.pressed ∧
    (processSample d x).2.tracker.pressLatched = x.pressed

/-- R46: processing a frame and then the same frame again leaves the state as the first processing left it,
and the second emits no event. -/
def Obligations.RepeatedFrameIsSilent : Prop :=
  ∀ (s t : State) (d : Device) (b0 b1 b2 b3 b4 b5 : Byte), s.life = .attached d →
    exec (.process [b0, b1, b2, b3, b4, b5]) s = .next t →
    exec (.process [b0, b1, b2, b3, b4, b5]) t =
      .next { t with observed := t.observed ++ [.done .ok []] }

/-- Derived from R133 (`track` and `press_edge` touch disjoint fields): running the edge detector first gives
the same events and the same state. -/
def Obligations.PressEdgeAndTrackerCommute : Prop :=
  ∀ (d : Device) (x : Sample), processPressFirst d x = processSample d x

/-- R97: the sequential reading of rules 1 to 4 and the selection on the state before the sample agree. -/
def Obligations.SequentialReadingAgrees : Prop :=
  ∀ (c : DeviceConfig) (t : TrackerState) (x : Sample), trackSequential c t x = track c t x

/-- R98: while every sample is a touch within the threshold of the reference, the reference stays and nothing
moves; the next sample that crosses is measured from it. -/
def Obligations.SubThresholdMotionAccumulates : Prop :=
  ∀ (d : Device) (xs : List Sample) (x : Sample), d.tracker.touching = true →
    (∀ y ∈ xs, d.config.weightThreshold.toNat ≤ y.weight.toNat ∧
      (diff d.config.variant y.position d.tracker.referencePosition).natAbs ≤
        d.config.positionChangeThreshold.toNat) →
    (runSamples d xs).2.config = d.config ∧
    (runSamples d xs).2.tracker.touching = true ∧
    (runSamples d xs).2.tracker.referencePosition = d.tracker.referencePosition ∧
    (∀ events ∈ (runSamples d xs).1, ∀ e ∈ events, isMotion e = false) ∧
    (d.config.weightThreshold.toNat ≤ x.weight.toNat →
      d.config.positionChangeThreshold.toNat <
        (diff d.config.variant x.position d.tracker.referencePosition).natAbs →
      (processSample (runSamples d xs).2 x).1.head? =
        some (.motion (axisOf d.config.variant)
          (scale (diff d.config.variant x.position d.tracker.referencePosition)
            d.config.movementBitshift.toNat)))

/-- Derived from R95 (debounce idempotence, spec/90_conflicts.md C5): while not touching, light samples never
change the tracker's own state and never emit motion. -/
def Obligations.LightSamplesNeverTouch : Prop :=
  ∀ (d : Device) (xs : List Sample), d.tracker.touching = false →
    (∀ x ∈ xs, x.weight.toNat < d.config.weightThreshold.toNat) →
    (runSamples d xs).2.tracker.touching = false ∧
    (runSamples d xs).2.tracker.referencePosition = d.tracker.referencePosition ∧
    (∀ events ∈ (runSamples d xs).1, ∀ e ∈ events, isMotion e = false)

/-- R121, its four laws, for every sequence of samples after ATTACH (latch clear): a press event exactly at a
change of the flag, with the new value; the values alternate from `true`; the latch ends at the last flag. -/
def Obligations.PressEdgeLaws : Prop :=
  ∀ (d : Device) (xs : List Sample), d.tracker.pressLatched = false →
    (runSamples d xs).1.length = xs.length ∧
    (∀ (i : Nat) (x : Sample), xs[i]? = some x →
      ((runSamples d xs).1.getD i []).filterMap pressValue? =
        if x.pressed = (if i = 0 then false else ((xs[i - 1]?).map Sample.pressed).getD false) then []
        else [x.pressed]) ∧
    (∀ i, i < ((runSamples d xs).1.flatten.filterMap pressValue?).length →
      ((runSamples d xs).1.flatten.filterMap pressValue?)[i]? = some (decide (i % 2 = 0))) ∧
    (∀ x, xs.getLast? = some x → (runSamples d xs).2.tracker.pressLatched = x.pressed)

/-! ## The arithmetic -/

/-- R81: the decoder fails exactly when the length is not 6. -/
def Obligations.DecoderFailsExactlyOnLength : Prop :=
  ∀ payload : List Byte,
    (payload.length ≠ 6 → decodeFrame payload = .error .malformedFrame) ∧
    (payload.length = 6 → ∃ x, decodeFrame payload = .ok x)

/-- R82, R62: the fields of a frame, as numbers of its bytes. -/
def Obligations.FrameFieldsAreTheirBits : Prop :=
  ∀ b0 b1 b2 b3 b4 b5 : Byte, ∃ x, decodeFrame [b0, b1, b2, b3, b4, b5] = .ok x ∧
    x.weight.toNat = b0.toNat % 64 ∧
    x.position.toNat = 256 * (b1.toNat % 16) + b2.toNat ∧
    (x.pressed = true ↔ b4.toNat ≠ 0)

/-- R63: frames that agree on the decoded bits do the same, in every state. -/
def Obligations.IgnoredBitsHaveNoEffect : Prop :=
  ∀ (s : State) (b0 b1 b2 b3 b4 b5 c0 c1 c3 c4 c5 : Byte),
    b0.toNat % 64 = c0.toNat % 64 → b1.toNat % 16 = c1.toNat % 16 → (b4.toNat = 0 ↔ c4.toNat = 0) →
    exec (.process [b0, b1, b2, b3, b4, b5]) s = exec (.process [c0, c1, b2, c3, c4, c5]) s

/-- R111: the sensor's difference is plain subtraction, in [-4095, 4095]. -/
def Obligations.SensorDifferenceIsLinear : Prop :=
  ∀ p r : Position, diff .sensor p r = (p.toNat : Int) - (r.toNat : Int) ∧
    -4095 ≤ diff .sensor p r ∧ diff .sensor p r ≤ 4095

/-- R113, its five laws (with R112): the range, the sum modulo 4096, uniqueness, the shorter arc with its tie,
and antisymmetry but for the tie. -/
def Obligations.WheelDifferenceLaws : Prop :=
  ∀ p r : Position,
    (-2048 < diff .wheel p r ∧ diff .wheel p r ≤ 2048) ∧
    ((r.toNat : Int) + diff .wheel p r) % 4096 = (p.toNat : Int) ∧
    (∀ z : Int, -2048 < z → z ≤ 2048 → ((r.toNat : Int) + z) % 4096 = (p.toNat : Int) →
      z = diff .wheel p r) ∧
    (diff .wheel p r).natAbs =
      min ((p.toNat : Int) - (r.toNat : Int)).natAbs (4096 - ((p.toNat : Int) - (r.toNat : Int)).natAbs) ∧
    (((p.toNat : Int) - (r.toNat : Int)).natAbs = 2048 →
      diff .wheel p r = 2048 ∧ diff .wheel r p = 2048) ∧
    (((p.toNat : Int) - (r.toNat : Int)).natAbs ≠ 2048 → diff .wheel p r = -diff .wheel r p)

/-- R93: the scale is the quotient truncated toward zero; identity at shift 0, odd, and zero from shift 12 on
for every difference of the block. -/
def Obligations.ScaleTruncatesTowardZero : Prop :=
  ∀ (raw : Int) (k : Nat),
    scale raw k = raw.sign * ((raw.natAbs / 2 ^ k : Nat) : Int) ∧
    scale raw k = Int.tdiv raw (2 ^ k) ∧
    scale raw 0 = raw ∧
    scale (-raw) k = -scale raw k ∧
    (raw.natAbs ≤ 4095 → 12 ≤ k → scale raw k = 0)

/-- R96: every difference and every delta is in its stated range, and 13 bits of two's complement hold it. -/
def Obligations.ArithmeticNeverOverflows : Prop :=
  ∀ (v : Variant) (p r : Position) (k : Nat),
    (-4095 ≤ naiveDiff p r ∧ naiveDiff p r ≤ 4095) ∧
    (-4095 ≤ diff v p r ∧ diff v p r ≤ 4095) ∧
    (-2047 ≤ diff .wheel p r ∧ diff .wheel p r ≤ 2048) ∧
    (scale (diff v p r) k).natAbs ≤ (diff v p r).natAbs ∧
    (BitVec.ofInt 13 (naiveDiff p r)).toInt = naiveDiff p r ∧
    (BitVec.ofInt 13 (diff v p r)).toInt = diff v p r ∧
    (BitVec.ofInt 13 (scale (diff v p r) k)).toInt = scale (diff v p r) k

/-- R99: a crossing whose magnitude shifts to zero still emits an event, of delta 0, and still moves the
reference; this happens exactly when the magnitude is below `2 ^ movementBitshift`. -/
def Obligations.ZeroDeltaEventsAreEmitted : Prop :=
  ∀ (d : Device) (x : Sample), d.tracker.touching = true →
    d.config.weightThreshold.toNat ≤ x.weight.toNat →
    d.config.positionChangeThreshold.toNat <
      (diff d.config.variant x.position d.tracker.referencePosition).natAbs →
    ((processSample d x).1.head? = some (.motion (axisOf d.config.variant) 0) ↔
      (diff d.config.variant x.position d.tracker.referencePosition).natAbs <
        2 ^ d.config.movementBitshift.toNat) ∧
    (processSample d x).2.tracker.referencePosition = x.position

/-- Derived from R26 to R28: what the extreme configuration values do to a device. -/
def Obligations.ExtremeConfigurations : Prop :=
  ∀ (d : Device) (x : Sample),
    (d.config.weightThreshold = 0 → (processSample d x).2.tracker.touching = true) ∧
    (64 ≤ d.config.weightThreshold.toNat → (processSample d x).2.tracker.touching = false) ∧
    (d.config.variant = .wheel → 2048 ≤ d.config.positionChangeThreshold.toNat →
      ∀ e ∈ (processSample d x).1, isMotion e = false) ∧
    (d.config.variant = .sensor → d.config.positionChangeThreshold.toNat = 4095 →
      ∀ e ∈ (processSample d x).1, isMotion e = false) ∧
    (12 ≤ d.config.movementBitshift.toNat →
      ∀ axis delta, .motion axis delta ∈ (processSample d x).1 → delta = 0)

/-! ## The encodings -/

/-- Derived from R65 to R69, R75, on the words of spec/95_test_vectors.md §2.6: a sanity statement. -/
def Obligations.CommandWordsDecode : Prop :=
  decode { word := 0x58400200, payload := [] } = .ok (.attach .wheel 8 256 6) ∧
  decode { word := 0x4C400001, payload := [] } = .ok (.attach .sensor 0 256 3) ∧
  decode { word := 0x80000006, payload := [0x8A, 0x0F, 0xA0, 0x00, 0x00, 0x00] } =
    .ok (.process [0x8A, 0x0F, 0xA0, 0x00, 0x00, 0x00]) ∧
  decode { word := 0x80000106, payload := [] } = .error .reservedBits ∧
  decode { word := 0xC0000000, payload := [] } = .ok .detach ∧
  decode { word := 0xC0000001, payload := [] } = .error .reservedBits ∧
  decode { word := 0x3FFFFFFF, payload := [] } = .ok (.reserved 0x3FFFFFFF) ∧
  encode (.sample 10 4000 false) =
    { word := 0x80000006, payload := [0x8A, 0x0F, 0xA0, 0x00, 0x00, 0x00] }

/-- Derived from R74, R75: lines of the textual form stand for their instructions: a sanity statement
(assumption log 15 for blanks). -/
def Obligations.TextStandsForInstructions : Prop :=
  assemble "ATTACH Wheel, wt=8, pct=0x100, shift=6".toList = some (.attach .wheel 8 256 6) ∧
  assemble "process 0x8A, 15, 160, 0, 0, 0".toList = some (.process [0x8A, 0x0F, 0xA0, 0, 0, 0]) ∧
  assemble "SAMPLE w=10, pos=4000, p=0".toList = some (.sample 10 4000 false) ∧
  assemble "Detach".toList = some .detach ∧
  assemble "SAMPLE w=64, pos=0, p=0".toList = none

/-- Derived from R65 to R68, R73, R75: decode and encode agree. The words of every well-formed instruction
decode to it; those of FRAME48 and SAMPLE to the PROCESS they spell (assumption log 8). -/
def Obligations.DecodeOfEncode : Prop :=
  ∀ i : Instr, wellFormed i = true → decode (encode i) = .ok (coreOf i)

/-- Derived from R65 to R68, R73, the other way: what decodes is well-formed and is its own encoding; no bit
of an accepted command is dropped, but for what is presented with a RESERVED word (assumption log 7). -/
def Obligations.EncodeOfDecode : Prop :=
  ∀ (p : Presentation) (i : Instr), decode p = .ok i →
    wellFormed i = true ∧ coreOf i = i ∧ (encode i).word = p.word ∧
      (opOf p.word ≠ 0 → encode i = p)

/-- Derived from R69, R155 (assumption log 2 and 7): a presented word with the reserved code, or with a
nonzero reserved bit, is refused by its reason: no change of the device, no status, no event. -/
def Obligations.ReservedEncodingsAreRefused : Prop :=
  ∀ (s : State) (p : Presentation) (rest : List Presentation), s.pending = p :: rest →
    (opOf p.word = 0 → step s = .next { s with
      pending := rest, observed := s.observed ++ [.refused .reservedOp] }) ∧
    (ReservedBitSet p.word → step s = .next { s with
      pending := rest, observed := s.observed ++ [.refused .reservedBits] })

/-- Derived from R70, R115: a record has its kind in bit 15, its token in bit 14, 0 in bit 13, and its delta
(in two's complement) or its press value below; and read back it gives its event, for every delta of the
block. -/
def Obligations.EventRecordsReadBack : Prop :=
  (∀ axis delta, DeltaInRange .sensor delta →
    (eventWord (.motion axis delta)).toNat =
      16384 * (if axis = .axisSensor then 1 else 0) + (delta % 8192).toNat ∧
    eventOfWord (eventWord (.motion axis delta)) = some (.motion axis delta)) ∧
  (∀ button pressed,
    (eventWord (.press button pressed)).toNat =
      32768 + 16384 * (if button = .buttonSensor then 1 else 0) + (if pressed then 1 else 0) ∧
    eventOfWord (eventWord (.press button pressed)) = some (.press button pressed))

/-! ## The machine as a whole -/

/-- Derived from R48, R3 (assumption log 3, and log 7 for a RESERVED word): a step runs the instruction the
decoder reads from the operation presented first, on the state without it. -/
def Obligations.StepRunsDecodedInstruction : Prop :=
  ∀ (s : State) (p : Presentation) (rest : List Presentation) (i : Instr), s.pending = p :: rest →
    decode p = .ok i → step s = exec i { s with pending := rest }

/-- Derived from R60, R75 (assumption log 3 and 8): a step on the words of any well-formed instruction,
FRAME48 and SAMPLE among them, runs that instruction. -/
def Obligations.StepRunsEncodedInstruction : Prop :=
  ∀ (s : State) (rest : List Presentation) (i : Instr), wellFormed i = true →
    s.pending = encode i :: rest → step s = exec i { s with pending := rest }

/-- Derived from R152 (assumption log 2 and 6, and log 7 for what is pending after a refused word): the first
check that applies decides the outcome: the command word, then `life`, then the length, then the normal
effect. The premise that the payload is the announced one is the interface's shape (R66). -/
def Obligations.OrderOfChecks : Prop :=
  ∀ (s : State) (p : Presentation) (rest : List Presentation), s.pending = p :: rest →
    WellPresented p →
    ∃ t r, step s = .next t ∧ t.pending = rest ∧ t.observed = s.observed ++ [r] ∧
      (opOf p.word = 0 → r = .refused .reservedOp) ∧
      (ReservedBitSet p.word → r = .refused .reservedBits) ∧
      (opOf p.word ≠ 0 → ¬ReservedBitSet p.word →
        (opOf p.word = 1 → s.life = .detached → r = .done .ok []) ∧
        (opOf p.word = 1 → s.life ≠ .detached → r = .refused .alreadyAttached) ∧
        (opOf p.word ≠ 1 → s.life = .detached → r = .refused .notAttached) ∧
        (opOf p.word = 2 → s.life ≠ .detached → p.payload.length ≠ 6 → r = .done .malformedFrame []) ∧
        (opOf p.word = 2 → s.life ≠ .detached → p.payload.length = 6 → ∃ events, r = .done .ok events) ∧
        (opOf p.word = 3 → s.life ≠ .detached → r = .done .ok []))

/-- Derived from R48, R34 and R142 (assumption log 3 and 4; log 2 and 7, the model's choice, for a refused
operation): a step takes exactly the first operation and adds exactly one result; nothing observed before
changes. -/
def Obligations.EachStepGivesOneResult : Prop :=
  ∀ s t : State, step s = .next t →
    ∃ p r, s.pending = p :: t.pending ∧ t.observed = s.observed ++ [r]

/-- Derived from R116, R25 to R28 and R131: no step changes the configuration of a device that stays Attached.
-/
def Obligations.ConfigurationIsFixedWhileAttached : Prop :=
  ∀ (s t : State) (d e : Device), s.life = .attached d → step s = .next t → t.life = .attached e →
    e.config = d.config

/-- Derived from R21, R130, R140: only ATTACH attaches and only DETACH detaches. -/
def Obligations.LifeChangesOnlyByAttachAndDetach : Prop :=
  ∀ (i : Instr) (s t : State), exec i s = .next t →
    (∀ d, s.life = .detached → t.life = .attached d → ∃ v wt pct shift, i = .attach v wt pct shift) ∧
    (∀ d, s.life = .attached d → t.life = .detached → i = .detach)

/-- Derived from R155 (assumption log 2): a refused operation has no effect on the device and adds its reason
to the mark; and the mark, once set, stays set. -/
def Obligations.RefusalHasNoEffectAndMarkStays : Prop :=
  ∀ s t : State, step s = .next t →
    (∀ reason, t.observed = s.observed ++ [.refused reason] →
      t.life = s.life ∧ t.refusals = s.refusals ++ [reason]) ∧
    (¬MarkClear s → ¬MarkClear t)

/-- Derived from R70, R96, R135, R150 as an invariant (assumption log 4): every step keeps every recorded
result legal (event lists of the four shapes with one variant's tokens and deltas in range; no event with a
malformed frame). -/
def Obligations.StepKeepsObservationLegal : Prop :=
  ∀ s t : State, ObservationLegal s → step s = .next t → ObservationLegal t

/-- Derived from R101, R151, R155, and the model's own choice where an operation is refused: a run of
operations that each carry the announced payload ends with nothing left and one result for each, and a result
is a refusal or a status. A refused operation is not carried out: that it only gets a result and the run goes
on is assumption log 2, and that the next presentation follows it whatever bytes came with the refused word is
assumption log 7 (unsafe; R155 lets no claim rest on what follows a refusal). Log 3, 4 and 6 give the two
lists and the premise. -/
def Obligations.WellPresentedRunCompletes : Prop :=
  ∀ s : State, (∀ p ∈ s.pending, WellPresented p) →
    ∃ t : State, Host.Core.run core s.pending.length s = .next t ∧ t.pending = [] ∧
      t.observed.length = s.observed.length + s.pending.length ∧ s.observed <+: t.observed

/-- Derived from R142 and R66 (the model's choice: assumption log 5 and 6, and log 2 and 7 for refused words,
on which it does not stop): a step stops only where no operation is presented, or where the payload is not the
announced one. -/
def Obligations.StepStopsOnlyWithoutOperation : Prop :=
  ∀ s : State,
    (s.pending = [] → step s = .fault .noOperation) ∧
    (∀ f, step s = .fault f → s.pending = [] ∧ f = .noOperation) ∧
    (∀ r, step s = .refused r →
      r = .payloadMismatch ∧ ∃ p rest, s.pending = p :: rest ∧ ¬WellPresented p)

/-- R47: an operation on one device neither reads nor writes another. -/
def Obligations.DevicesAreIsolated : Prop :=
  ∀ (k : Nat) (devices after : List State), stepDevice k devices = .next after →
    after.length = devices.length ∧
    (∀ j, j ≠ k → after[j]? = devices[j]?) ∧
    (∀ others : List State, others[k]? = devices[k]? →
      ∃ after', stepDevice k others = .next after' ∧ after'[k]? = after[k]?)
end

