-- ==== Sys2Proof/Laws/State.lean ====
section
/-! SUPPORT. One lemma per field of State per update, and for the refusal mark, so that no later proof
unfolds a record update. -/

namespace Sys2Proof.Machine

@[simp] theorem State.setLife_life (s : State) (l : Lifecycle) : (s.setLife l).life = l := rfl
@[simp] theorem State.setLife_pending (s : State) (l : Lifecycle) :
    (s.setLife l).pending = s.pending := rfl
@[simp] theorem State.setLife_observed (s : State) (l : Lifecycle) :
    (s.setLife l).observed = s.observed := rfl

@[simp] theorem State.record_life (s : State) (r : OpResult) : (s.record r).life = s.life := rfl
@[simp] theorem State.record_pending (s : State) (r : OpResult) :
    (s.record r).pending = s.pending := rfl
@[simp] theorem State.record_observed (s : State) (r : OpResult) :
    (s.record r).observed = s.observed ++ [r] := rfl

@[simp] theorem State.complete_life (s : State) (st : Status) (es : List Event) :
    (s.complete st es).life = s.life := rfl
@[simp] theorem State.complete_pending (s : State) (st : Status) (es : List Event) :
    (s.complete st es).pending = s.pending := rfl
@[simp] theorem State.complete_observed (s : State) (st : Status) (es : List Event) :
    (s.complete st es).observed = s.observed ++ [.done st es] := rfl

@[simp] theorem State.refuse_life (s : State) (r : RefusalReason) : (s.refuse r).life = s.life := rfl
@[simp] theorem State.refuse_pending (s : State) (r : RefusalReason) :
    (s.refuse r).pending = s.pending := rfl
@[simp] theorem State.refuse_observed (s : State) (r : RefusalReason) :
    (s.refuse r).observed = s.observed ++ [.refused r] := rfl

@[simp] theorem State.reportMalformed_life (s : State) : s.reportMalformed.life = s.life := rfl
@[simp] theorem State.reportMalformed_pending (s : State) :
    s.reportMalformed.pending = s.pending := rfl
@[simp] theorem State.reportMalformed_observed (s : State) :
    s.reportMalformed.observed = s.observed ++ [.done .malformedFrame []] := rfl

@[simp] theorem State.presentNext_life (s : State) (p : Presentation) :
    (s.presentNext p).life = s.life := rfl
@[simp] theorem State.presentNext_pending (s : State) (p : Presentation) :
    (s.presentNext p).pending = p :: s.pending := rfl
@[simp] theorem State.presentNext_observed (s : State) (p : Presentation) :
    (s.presentNext p).observed = s.observed := rfl

/-- A refusal joins the mark (R155). -/
@[simp] theorem State.refusals_refuse (s : State) (r : RefusalReason) :
    (s.refuse r).refusals = s.refusals ++ [r] := by
  simp [State.refusals, OpResult.reason?]

/-- An operation that takes effect leaves the mark alone (R155). -/
@[simp] theorem State.refusals_complete (s : State) (st : Status) (es : List Event) :
    (s.complete st es).refusals = s.refusals := by
  simp [State.refusals, OpResult.reason?]

end Sys2Proof.Machine
end

