-- ==== Sys2Proof/Laws/Ops.lean ====
section
/-! SUPPORT. One lemma per shared operation, saying what it can do. -/

namespace Sys2Proof.Machine

/-- On an Attached device the operation's own effect happens. -/
theorem whenAttached_of_attached {s : State} {d : Device} (h : s.life = .attached d)
    (effect : Device → State) : whenAttached s effect = effect d := by
  simp [whenAttached, h]

/-- On a Detached device the operation is refused (R156). -/
theorem whenAttached_of_detached {s : State} (h : s.life = .detached) (effect : Device → State) :
    whenAttached s effect = s.refuse .notAttached := by
  simp [whenAttached, h]

@[simp] theorem fetch_nil {s : State} (h : s.pending = []) : fetch s = .error .noOperation := by
  simp [fetch, h]

@[simp] theorem fetch_cons {s : State} {p : Presentation} {rest : List Presentation}
    (h : s.pending = p :: rest) : fetch s = .ok (p, { s with pending := rest }) := by
  simp [fetch, h]

@[simp] theorem rejectPresentation_reservedBits (s : State) :
    rejectPresentation .reservedBits s = .next (s.refuse .reservedBits) := rfl

@[simp] theorem rejectPresentation_payloadMismatch (s : State) :
    rejectPresentation .payloadMismatch s = .refused .payloadMismatch := rfl

end Sys2Proof.Machine
end

