-- ==== Sys2Proof/Laws/PerInstr.lean ====
section
/-! SUPPORT. A statement about every instruction as syntax, one lemma per constructor. -/

namespace Sys2Proof.Laws.Announced

/-- The word that carries a well-formed instruction announces exactly the payload presented with it
(R66). -/
def Statement (i : Instr) : Prop :=
  wellFormed i = true → announcedLength (encode i).word = (encode i).payload.length

/-- A CMD-P word announces its `len` (R66). -/
theorem announcedLength_processWord (len : BitVec 8) : announcedLength (processWord len) = len.toNat := by
  revert len
  decide

/-- No payload follows a word whose operation code is not PROCESS's. -/
theorem announcedLength_of_op {w : Word} (h : opOf w ≠ 0b10#2) : announcedLength w = 0 := by
  simp [announcedLength, h]

/-- A presented payload is announced whole if its length fits the field (R66). -/
theorem announced_presentPayload {payload : List Byte} (h : payload.length ≤ 255) :
    announcedLength (presentPayload payload).word = (presentPayload payload).payload.length := by
  simp only [presentPayload, announcedLength_processWord, BitVec.toNat_ofNat]
  omega

/-- Bits 31:30 of a CMD-A word (R67). -/
theorem opOf_attachWord (v : Variant) (wt : BitVec 8) (pct : BitVec 12) (shift : BitVec 4) :
    opOf (attachWord v wt pct shift) = 0b01#2 := by
  unfold opOf attachWord
  ext i hi
  interval_cases i <;> simp

/-- Bits 31:30 of a reserved word (R69). -/
theorem opOf_reservedWord (rest : BitVec 30) : opOf (reservedWord rest) = 0b00#2 := by
  unfold opOf reservedWord
  ext i hi
  interval_cases i <;> simp

theorem attach (v : Variant) (wt : BitVec 8) (pct : BitVec 12) (shift : BitVec 4) :
    Statement (.attach v wt pct shift) := by
  intro _
  exact announcedLength_of_op (by simp [encode, opOf_attachWord])

theorem process (payload : List Byte) : Statement (.process payload) := by
  intro h
  exact announced_presentPayload (by simpa [wellFormed] using h)

theorem detach : Statement .detach := by
  intro _
  decide

theorem reserved (rest : BitVec 30) : Statement (.reserved rest) := by
  intro _
  exact announcedLength_of_op (by simp [encode, opOf_reservedWord])

theorem frame48 (b0 b1 b2 b3 b4 b5 : Byte) : Statement (.frame48 b0 b1 b2 b3 b4 b5) := by
  intro _
  exact announced_presentPayload (by simp)

theorem sample (weight : Weight) (position : Position) (pressed : Bool) :
    Statement (.sample weight position pressed) := by
  intro _
  exact announced_presentPayload (by simp [sampleBytes])

end Sys2Proof.Laws.Announced
end

