-- ==== Sys2Proof/Laws/Process.lean ====
section
/-! SUPPORT. What the stages of PROCESS can do, each said once. -/

namespace Sys2Proof.Machine

/-- Six bytes always decode (R82). -/
@[simp] theorem decodeFrame_six (b0 b1 b2 b3 b4 b5 : Byte) :
    decodeFrame [b0, b1, b2, b3, b4, b5] = .ok (decode6 b0 b1 b2 b4) := rfl

/-- A payload that decodes is six bytes. -/
theorem decodeFrame_inversion {payload : List Byte} {x : Sample} (h : decodeFrame payload = .ok x) :
    ∃ b0 b1 b2 b3 b4 b5, payload = [b0, b1, b2, b3, b4, b5] ∧ x = decode6 b0 b1 b2 b4 := by
  unfold decodeFrame at h
  split at h
  · rename_i b0 b1 b2 b3 b4 b5
    exact ⟨b0, b1, b2, b3, b4, b5, rfl, by simpa using h.symm⟩
  · cases h

/-- Debounce as a comparison (R90). -/
theorem above_eq_true {c : DeviceConfig} {x : Sample} :
    above c x = true ↔ c.weightThreshold.toNat ≤ x.weight.toNat := by simp [above]

theorem above_eq_false {c : DeviceConfig} {x : Sample} :
    above c x = false ↔ x.weight.toNat < c.weightThreshold.toNat := by simp [above]

/-- The position-change threshold as a comparison (R92). -/
theorem crosses_eq_true {c : DeviceConfig} {raw : Int} :
    crosses c raw = true ↔ c.positionChangeThreshold.toNat < raw.natAbs := by simp [crosses]

theorem crosses_eq_false {c : DeviceConfig} {raw : Int} :
    crosses c raw = false ↔ raw.natAbs ≤ c.positionChangeThreshold.toNat := by simp [crosses]

/-- The four cases of the tracker (R90), with the conditions that select them. -/
theorem track_cases (c : DeviceConfig) (t : TrackerState) (x : Sample) :
    (t.touching = false ∧ above c x = true ∧ track c t x = touchBegin t x) ∨
    (t.touching = true ∧ above c x = true ∧ track c t x = touchContinue c t x) ∨
    (t.touching = true ∧ above c x = false ∧ track c t x = touchEnd t) ∨
    (t.touching = false ∧ above c x = false ∧ track c t x = noTouch t) := by
  cases ht : t.touching <;> cases ha : above c x <;> simp [track, ht, ha]

/-- The tracker writes neither the latch nor anything else of the press detector (R133). -/
@[simp] theorem track_pressLatched (c : DeviceConfig) (t : TrackerState) (x : Sample) :
    (track c t x).2.pressLatched = t.pressLatched := by
  rcases track_cases c t x with ⟨_, _, h⟩ | ⟨_, _, h⟩ | ⟨_, _, h⟩ | ⟨_, _, h⟩
  · simp [h, touchBegin]
  · rw [h, touchContinue]
    split <;> rfl
  · simp [h, touchEnd]
  · simp [h, noTouch]

/-- PROCESS of a sample never writes the configuration (R133). -/
@[simp] theorem processSample_config (d : Device) (x : Sample) :
    (processSample d x).2.config = d.config := rfl

/-- The tracker's part of a processed sample: what `track` gives (R133). -/
@[simp] theorem processSample_touching (d : Device) (x : Sample) :
    (processSample d x).2.tracker.touching = (track d.config d.tracker x).2.touching := rfl

@[simp] theorem processSample_referencePosition (d : Device) (x : Sample) :
    (processSample d x).2.tracker.referencePosition =
      (track d.config d.tracker x).2.referencePosition := rfl

/-- What PROCESS of a payload can do: refused, malformed, or a sample taken. -/
theorem processPayload_cases (payload : List Byte) (s : State) :
    (s.life = .detached ∧ processPayload payload s = s.refuse .notAttached) ∨
    (∃ d, s.life = .attached d ∧ decodeFrame payload = .error .malformedFrame ∧
      processPayload payload s = s.reportMalformed) ∨
    (∃ d x, s.life = .attached d ∧ decodeFrame payload = .ok x ∧
      processPayload payload s = takeSample s d x) := by
  cases hl : s.life with
  | detached => exact .inl ⟨rfl, whenAttached_of_detached hl _⟩
  | attached d =>
    cases hd : decodeFrame payload with
    | error e =>
      cases e
      exact .inr (.inl ⟨d, rfl, rfl, by simp [processPayload, whenAttached_of_attached hl, hd]⟩)
    | ok x =>
      exact .inr (.inr ⟨d, x, rfl, rfl, by simp [processPayload, whenAttached_of_attached hl, hd]⟩)

@[simp] theorem takeSample_life (s : State) (d : Device) (x : Sample) :
    (takeSample s d x).life = .attached (processSample d x).2 := rfl
@[simp] theorem takeSample_pending (s : State) (d : Device) (x : Sample) :
    (takeSample s d x).pending = s.pending := rfl
@[simp] theorem takeSample_observed (s : State) (d : Device) (x : Sample) :
    (takeSample s d x).observed = s.observed ++ [.done .ok (processSample d x).1] := rfl

end Sys2Proof.Machine
end

