-- ==== Sys2Proof/Laws/Step.lean ====
section
/-! SUPPORT. What a step that answers a next state did. -/

namespace Sys2Proof.Machine

/-- A step that goes on took the first presentation: it was an instruction that `exec` carried out, or a
word with a reserved bit set, which was refused (R69). -/
theorem step_next_cases {s t : State} (h : step s = .next t) :
    ∃ p rest, s.pending = p :: rest ∧
      ((∃ i, decode p = .ok i ∧ exec i { s with pending := rest } = .next t) ∨
        (decode p = .error .reservedBits ∧
          t = State.refuse { s with pending := rest } .reservedBits)) := by
  cases hp : s.pending with
  | nil => simp [step, fetch_nil hp] at h
  | cons p rest =>
    refine ⟨p, rest, rfl, ?_⟩
    simp only [step, fetch_cons hp] at h
    cases hd : decode p with
    | ok i => exact .inl ⟨i, rfl, by simpa [hd] using h⟩
    | error e =>
      cases e with
      | reservedBits => exact .inr ⟨rfl, by simpa [hd] using h.symm⟩
      | payloadMismatch => simp [hd] at h

end Sys2Proof.Machine
end

