-- ==== Sys2Proof/Tests/Slice0.lean ====
section
/-! SUPPORT. Small tests, each expected value from spec/95_test_vectors.md or from the rule named; and, for
every statement with hypotheses, a state and operands that meet them all (witness_<the statement>). -/

namespace Sys2Proof.Tests

open Sys2Proof.Machine

/-- An Attached device in a run with nothing presented or observed. -/
def device (v : Variant) (wt : BitVec 8) (pct : BitVec 12) (shift : BitVec 4) (touching : Bool)
    (ref : Position) (latched : Bool) : Device :=
  { config := { variant := v, weightThreshold := wt, positionChangeThreshold := pct,
                movementBitshift := shift },
    tracker := { touching := touching, referencePosition := ref, pressLatched := latched } }

/-- The run of that device. -/
def attached (d : Device) : State := { life := .attached d, pending := [], observed := [] }

/-- A run with these operations presented. -/
def presenting (l : Lifecycle) (ps : List Presentation) : State :=
  { life := l, pending := ps, observed := [] }

/-- The device's life and the observation after a step that goes on. -/
def outcome (o : Host.Outcome State Fault Refusal) : Option (Lifecycle × List OpResult) :=
  match o with
  | .next s => some (s.life, s.observed)
  | .fault _ => none
  | .refused _ => none

/-- The Sensor of spec/95_test_vectors.md §2.4, touching at 300. -/
def sensor300 : Device := device .sensor 8 16 2 true 300 false

/-- The same Sensor, not touching. -/
def sensorIdle : Device := device .sensor 8 16 2 false 0 false

/-! ## Well-formedness and encodings -/

theorem test_payload_of_256_bytes_is_ill_formed :
    wellFormed (.process (List.replicate 256 0)) = false := by
  rw [wellFormed, List.length_replicate]
  decide

theorem test_payload_of_255_bytes_is_well_formed :
    wellFormed (.process (List.replicate 255 0)) = true := by
  rw [wellFormed, List.length_replicate]
  decide

-- 0b01 0110 000100000000 00001000 00000 0, CW1.
theorem test_decode_attach_bits :
    decode { word := 0b01011000010000000000001000000000#32, payload := [] } =
      .ok (.attach .wheel 8 256 6) := by decide

-- 0b10, 22 zeros, len = 5: CW9, payload of FD8.
theorem test_decode_process_bits :
    decode { word := 0b10000000000000000000000000000101#32, payload := [0x8A, 0x0F, 0xA0, 0x00, 0x00] } =
      .ok (.process [0x8A, 0x0F, 0xA0, 0x00, 0x00]) := by decide

-- CW11 and CW12.
theorem test_decode_detach_bits :
    decode { word := 0b11000000000000000000000000000000#32, payload := [] } = .ok .detach ∧
    decode { word := 0b11000000000000000000000000000001#32, payload := [] } = .error .reservedBits := by
  decide

-- CW13 and CW14.
theorem test_decode_reserved_bits :
    decode { word := 0x00000000, payload := [] } = .ok (.reserved 0) ∧
    decode { word := 0b00111111111111111111111111111111#32, payload := [] } =
      .ok (.reserved 0x3FFFFFFF) := by decide

-- FRAME48 after its command word (R76): a PROCESS of the frame; the frame of P3 step 7.
theorem test_decode_frame48_words :
    decode (encode (.frame48 0x45 0xF0 0x10 0xAA 0x80 0x55)) =
      decode { word := 0x80000006, payload := [0x45, 0xF0, 0x10, 0xAA, 0x80, 0x55] } ∧
    decodeTableWord 48 0x5580AA10F045 = some (.process [0x45, 0xF0, 0x10, 0xAA, 0x80, 0x55]) := by decide

-- SAMPLE w=63, pos=0, p=0: P2 step 9.
theorem test_decode_sample_words :
    encode (.sample 63 0 false) =
      { word := 0x80000006, payload := [0xBF, 0x00, 0x00, 0x00, 0x00, 0x00] } ∧
    decodeTableWord 80 0x0000000000BF80000006 =
      some (.process [0xBF, 0x00, 0x00, 0x00, 0x00, 0x00]) := by decide

theorem test_decode_rows_with_fixed_bits :
    decodeTableWord 32 0x40000000 = some (.attach .wheel 0 0 0) ∧
    decodeTableWord 32 0x80000000 = some (.process []) ∧
    decodeTableWord 32 0xC0000000 = some .detach ∧
    decodeTableWord 32 0x00000000 = some (.reserved 0) := by decide

-- A presentation that is no operation: five bytes where six are announced.
theorem test_payload_mismatch_is_rejected :
    decode { word := 0x80000006, payload := [0, 0, 0, 0, 0] } = .error .payloadMismatch := by decide

-- §2.6, event words.
theorem test_event_words :
    eventWord (.motion .axisWheel 11) = 0x000B#16 ∧ eventWord (.motion .axisWheel (-1)) = 0x1FFF#16 ∧
    eventWord (.motion .axisSensor (-4095)) = 0x5001#16 ∧ eventWord (.motion .axisSensor (-32)) = 0x5FE0#16 ∧
    eventWord (.press .buttonWheel true) = 0x8001#16 ∧ eventWord (.press .buttonSensor false) = 0xC000#16 := by
  decide

/-! ## The arithmetic -/

-- V1, V3, V4, V5, V7, V8, V9, V10, V16.
theorem test_wheel_vectors :
    diff .wheel 5 4090 = 11 ∧ diff .wheel 2048 0 = 2048 ∧ diff .wheel 0 2048 = 2048 ∧
    diff .wheel 2047 4095 = 2048 ∧ diff .wheel 2049 0 = -2047 ∧ diff .wheel 0 2049 = 2047 ∧
    diff .wheel 4095 0 = -1 ∧ diff .wheel 0 4095 = 1 ∧ diff .wheel 104 4000 = 200 := by decide

-- V20, V22; K1, K2, K3, K8, K10, K11.
theorem test_sensor_and_scale_vectors :
    diff .sensor 40 100 = -60 ∧ diff .sensor 0 4095 = -4095 ∧
    scale 257 3 = 32 ∧ scale (-257) 3 = -32 ∧ scale (-9) 3 = -1 ∧ scale 4095 0 = 4095 ∧
    scale 4095 12 = 0 ∧ scale (-2048) 11 = -1 := by decide

/-! ## The instructions -/

-- P1 step 1.
theorem test_attach_initialises :
    outcome (exec (.attach .wheel 8 256 6) State.reset) =
      some (.attached (device .wheel 8 256 6 false 0 false), [.done .ok []]) := by decide

-- P4 step 3.
theorem test_attach_again_is_refused :
    outcome (exec (.attach .wheel 8 8 8) (attached (device .sensor 0 0 0 false 0 false))) =
      some (.attached (device .sensor 0 0 0 false 0 false), [.refused .alreadyAttached]) := by decide

-- P3 step 7: odd marker bits, press flag 0x80.
theorem test_process_ignores_markers :
    outcome (exec (.process [0x45, 0xF0, 0x10, 0xAA, 0x80, 0x55])
        (attached (device .wheel 1 2 4 true 1 false))) =
      some (.attached (device .wheel 1 2 4 true 16 true),
        [.done .ok [.motion .axisWheel 0, .press .buttonWheel true]]) := by decide

-- R150's example.
theorem test_process_of_five_bytes_is_malformed :
    outcome (exec (.process [0x8A, 0x02, 0xBC, 0x00, 0x00])
        (attached (device .wheel 8 256 6 true 700 true))) =
      some (.attached (device .wheel 8 256 6 true 700 true), [.done .malformedFrame []]) := by decide

-- P4 step 7: no release event.
theorem test_detach_emits_nothing :
    outcome (exec .detach (attached (device .sensor 0 0 0 true 11 true))) =
      some (.detached, [.done .ok []]) := by decide

-- P4 step 6.
theorem test_reserved_is_refused :
    outcome (exec (.reserved 0) (attached (device .sensor 0 0 0 true 11 true))) =
      some (.attached (device .sensor 0 0 0 true 11 true), [.refused .reservedOp]) := by decide

-- P3 step 6, the tie: the frame as the table's row FRAME48.
theorem test_frame48_tie_is_positive :
    outcome (exec (.frame48 0x85 0x00 0x01 0x00 0x00 0x00)
        (attached (device .wheel 1 2 4 true 2049 false))) =
      some (.attached (device .wheel 1 2 4 true 1 false), [.done .ok [.motion .axisWheel 128]]) := by
  decide

-- T7.
theorem test_sample_motion_before_press :
    outcome (exec (.sample 63 4095 true) (attached sensor300)) =
      some (.attached (device .sensor 8 16 2 true 4095 true),
        [.done .ok [.motion .axisSensor 948, .press .buttonSensor true]]) := by decide

-- T6: the reference is kept at touch end.
theorem test_sample_touch_end :
    outcome (exec (.sample 7 900 false) (attached sensor300)) =
      some (.attached (device .sensor 8 16 2 false 300 false), [.done .ok []]) := by decide

-- T7's words, as the operation returns them (R60).
theorem test_returned_records :
    returned (.done .ok [.motion .axisSensor 948, .press .buttonSensor true]) =
      some (0, [0x43B4#16, 0xC001#16]) := by decide

-- The first step after power-on runs what is presented (R170, R130).
theorem test_step_attach_from_reset :
    outcome (step (State.reset.withFetchWord 32 0x58400200)) =
      some (.attached (device .wheel 8 256 6 false 0 false), [.done .ok []]) := by decide

-- P4 step 1: before ATTACH a PROCESS is refused, and the run goes on.
theorem test_step_process_from_reset :
    outcome (step (State.reset.withFetchWord 80 0x00000005008A80000006)) =
      some (.detached, [.refused .notAttached]) := by decide

/-! ## Witnesses of the statements' hypotheses -/

theorem witness_AttachInitialisesEveryField : State.reset.life = .detached := by decide

theorem witness_ReattachIsRefused : (attached sensor300).life = .attached sensor300 := by decide

theorem witness_DetachEndsDeviceOrIsRefused :
    (attached sensor300).life = .attached sensor300 ∧ State.reset.life = .detached := by decide

theorem witness_DetachedOperationsAreRefused : State.reset.life = .detached := by decide

theorem witness_MalformedFrameLeavesDevice :
    (attached sensor300).life = .attached sensor300 ∧ ([] : List Byte).length ≠ 6 ∧
    ([0x8A, 0x0F, 0xA0, 0x00, 0x00] : List Byte).length ≠ 6 ∧
    ([0x8A, 0x0F, 0xA0, 0x00, 0x00, 0x00, 0x00] : List Byte).length ≠ 6 := by decide

-- T1: a weight equal to the threshold.
theorem witness_TouchBeginTakesReference :
    (attached sensorIdle).life = .attached sensorIdle ∧ sensorIdle.tracker.touching = false ∧
    sensorIdle.config.weightThreshold.toNat ≤ (weightField 0x88).toNat := by decide

-- T4, one above the threshold, and T3, exactly the threshold.
theorem witness_TouchContinueMovesOrAccumulates :
    (attached sensor300).life = .attached sensor300 ∧ sensor300.tracker.touching = true ∧
    sensor300.config.weightThreshold.toNat ≤ (weightField 0x89).toNat ∧
    sensor300.config.positionChangeThreshold.toNat <
      (diff sensor300.config.variant (positionField 0x01 0x3D) sensor300.tracker.referencePosition).natAbs ∧
    (diff sensor300.config.variant (positionField 0x01 0x3C) sensor300.tracker.referencePosition).natAbs ≤
      sensor300.config.positionChangeThreshold.toNat := by decide

-- T6.
theorem witness_TouchEndKeepsReference :
    (attached sensor300).life = .attached sensor300 ∧ sensor300.tracker.touching = true ∧
    (weightField 0x87).toNat < sensor300.config.weightThreshold.toNat := by decide

-- T2.
theorem witness_NoTouchChangesOnlyLatch :
    (attached sensorIdle).life = .attached sensorIdle ∧ sensorIdle.tracker.touching = false ∧
    (weightField 0x87).toNat < sensorIdle.config.weightThreshold.toNat := by decide

theorem witness_Frame48IsProcessOfItsBytes :
    (attached sensor300).life = .attached sensor300 := by decide

theorem witness_SampleIsProcessOfItsFrame :
    (attached sensorIdle).life = .attached sensorIdle := by decide

theorem witness_ProcessKeepsConfiguration :
    (attached sensorIdle).life = .attached sensorIdle := by decide

theorem witness_RepeatedFrameIsSilent :
    (attached sensor300).life = .attached sensor300 ∧
    ∃ t, exec (.process [0xBF, 0x0F, 0xFF, 0x00, 0x01, 0x00]) (attached sensor300) = .next t :=
  ⟨rfl, _, rfl⟩

-- §2.4 "Accumulation": 110 below the threshold of the reference 100, then 120 crosses.
theorem witness_SubThresholdMotionAccumulates :
    (device .sensor 8 16 0 true 100 false).tracker.touching = true ∧
    (∀ y ∈ [({ position := 110, weight := 9, pressed := false } : Sample)],
      (device .sensor 8 16 0 true 100 false).config.weightThreshold.toNat ≤ y.weight.toNat ∧
      (diff (device .sensor 8 16 0 true 100 false).config.variant y.position
          (device .sensor 8 16 0 true 100 false).tracker.referencePosition).natAbs ≤
        (device .sensor 8 16 0 true 100 false).config.positionChangeThreshold.toNat) ∧
    (8 : Nat) ≤ (9 : Weight).toNat ∧ (16 : Nat) < (diff .sensor 120 100).natAbs := by decide

theorem witness_LightSamplesNeverTouch :
    sensorIdle.tracker.touching = false ∧
    (∀ x ∈ [({ position := 9, weight := 7, pressed := true } : Sample)],
      x.weight.toNat < sensorIdle.config.weightThreshold.toNat) := by decide

-- W6: press flags false, false, true, true, false.
theorem witness_PressEdgeLaws :
    sensorIdle.tracker.pressLatched = false ∧
    ((runSamples sensorIdle ([false, false, true, true, false].map fun p =>
      { position := 0, weight := 0, pressed := p })).1.map (·.filterMap pressValue?)) =
      [[], [], [true], [], [false]] := by decide

theorem witness_DecoderFailsExactlyOnLength :
    ([0, 0, 0, 0, 0, 0, 0] : List Byte).length ≠ 6 ∧ ([0, 0, 0, 0, 0, 0] : List Byte).length = 6 := by
  decide

-- FD4 against a frame with other markers.
theorem witness_IgnoredBitsHaveNoEffect :
    (0xBF : Byte).toNat % 64 = (0x3F : Byte).toNat % 64 ∧ (0x0F : Byte).toNat % 16 = (0xFF : Byte).toNat % 16 ∧
    ((0x01 : Byte).toNat = 0 ↔ (0x80 : Byte).toNat = 0) ∧ ((0x00 : Byte).toNat = 0 ↔ (0x00 : Byte).toNat = 0) := by
  decide

-- The tie, a difference that is none, and a value the uniqueness law admits (V1, V4).
theorem witness_WheelDifferenceLaws :
    (((0 : Position).toNat : Int) - ((2048 : Position).toNat : Int)).natAbs = 2048 ∧
    (((5 : Position).toNat : Int) - ((4090 : Position).toNat : Int)).natAbs ≠ 2048 ∧
    (-2048 < (11 : Int) ∧ (11 : Int) ≤ 2048 ∧
      (((4090 : Position).toNat : Int) + 11) % 4096 = ((5 : Position).toNat : Int)) ∧
    (-2048 < (2048 : Int) ∧ (2048 : Int) ≤ 2048 ∧
      (((2048 : Position).toNat : Int) + 2048) % 4096 = ((0 : Position).toNat : Int)) := by decide

theorem witness_ScaleTruncatesTowardZero : (-4095 : Int).natAbs ≤ 4095 ∧ (12 : Nat) ≤ 12 := by decide

-- T8, and a crossing whose delta is not zero (T4).
theorem witness_ZeroDeltaEventsAreEmitted :
    (device .wheel 1 2 4 true 4094 false).tracker.touching = true ∧ (1 : Nat) ≤ (5 : Weight).toNat ∧
    (2 : Nat) < (diff .wheel 1 4094).natAbs ∧ (diff .wheel 1 4094).natAbs < 2 ^ 4 ∧
    sensor300.tracker.touching = true ∧ (8 : Nat) ≤ (9 : Weight).toNat ∧
    (16 : Nat) < (diff .sensor 317 300).natAbs ∧ ¬(diff .sensor 317 300).natAbs < 2 ^ 2 := by decide

theorem witness_ExtremeConfigurations :
    (device .sensor 0 16 2 false 0 false).config.weightThreshold = 0 ∧
    64 ≤ (device .sensor 64 16 2 true 0 false).config.weightThreshold.toNat ∧
    (device .wheel 8 2048 2 true 0 false).config.variant = .wheel ∧
    2048 ≤ (device .wheel 8 2048 2 true 0 false).config.positionChangeThreshold.toNat ∧
    (device .sensor 8 4095 2 true 0 false).config.variant = .sensor ∧
    (device .sensor 8 4095 2 true 0 false).config.positionChangeThreshold.toNat = 4095 ∧
    12 ≤ (device .sensor 8 16 12 true 0 false).config.movementBitshift.toNat ∧
    Event.motion .axisSensor 0 ∈
      (processSample (device .sensor 8 16 12 true 0 false)
        { position := 4095, weight := 63, pressed := false }).1 := by decide

theorem witness_DecodeOfEncode :
    wellFormed (.attach .sensor 255 4095 15) = true ∧
    wellFormed (.process (List.replicate 255 0xFF)) = true ∧ wellFormed (.process []) = true ∧
    wellFormed .detach = true ∧ wellFormed (.reserved 0x3FFFFFFF) = true ∧
    wellFormed (.frame48 0 0 0 0 0 0) = true ∧ wellFormed (.sample 63 4095 true) = true := by
  refine ⟨rfl, ?_, rfl, rfl, rfl, rfl, rfl⟩
  rw [wellFormed, List.length_replicate]
  decide

theorem witness_EncodeOfDecode :
    decode { word := 0x7FFFFFC1, payload := [] } = .ok (.attach .sensor 255 4095 15) ∧
    decode { word := 0x80000001, payload := [0xFF] } = .ok (.process [0xFF]) ∧
    decode { word := 0xC0000000, payload := [] } = .ok .detach ∧
    decode { word := 0x00000000, payload := [0xFF] } = .ok (.reserved 0) ∧
    opOf 0x80000001 ≠ 0 := by decide

/-- One state for each clause: the reserved code, and the lowest and the highest reserved bit of each
format. -/
theorem witness_ReservedEncodingsAreRefused :
    (presenting .detached [{ word := 0x3FFFFFFF, payload := [] }]).pending =
      [{ word := 0x3FFFFFFF, payload := [] }] ∧
    opOf 0x3FFFFFFF = 0 ∧
    ReservedBitSet 0x40000002 ∧ ReservedBitSet 0x40000020 ∧ ReservedBitSet 0x80000100 ∧
    ReservedBitSet 0xA0000000 ∧ ReservedBitSet 0xC0000001 ∧ ReservedBitSet 0xE0000000 := by
  unfold ReservedBitSet
  decide

theorem witness_EventRecordsReadBack :
    DeltaInRange .sensor (-4095) ∧ DeltaInRange .sensor 4095 := by
  unfold DeltaInRange
  decide

theorem witness_StepRunsDecodedInstruction :
    (presenting .detached [{ word := 0xC0000000, payload := [] }]).pending =
      [{ word := 0xC0000000, payload := [] }] ∧
    decode { word := 0xC0000000, payload := [] } = .ok .detach := by decide

theorem witness_StepRunsEncodedInstruction :
    wellFormed (.sample 10 4000 false) = true ∧
    (presenting .detached [encode (.sample 10 4000 false)]).pending =
      [encode (.sample 10 4000 false)] := by decide

/-- Each clause of the order of checks is reached: the words, and the two lives. -/
theorem witness_OrderOfChecks :
    (presenting .detached [{ word := 0x80000005, payload := [0, 0, 0, 0, 0] }]).pending =
      [{ word := 0x80000005, payload := [0, 0, 0, 0, 0] }] ∧
    WellPresented { word := 0x00000000, payload := [] } ∧ opOf 0x00000000 = 0 ∧
    WellPresented { word := 0x80000105, payload := [0, 0, 0, 0, 0] } ∧ ReservedBitSet 0x80000105 ∧
    WellPresented { word := 0x40000000, payload := [] } ∧ opOf 0x40000000 = 1 ∧ ¬ReservedBitSet 0x40000000 ∧
    WellPresented { word := 0x80000005, payload := [0, 0, 0, 0, 0] } ∧ opOf 0x80000005 = 2 ∧
    ¬ReservedBitSet 0x80000005 ∧
    WellPresented { word := 0x80000006, payload := [0, 0, 0, 0, 0, 0] } ∧ opOf 0x80000006 = 2 ∧
    ¬ReservedBitSet 0x80000006 ∧
    WellPresented { word := 0xC0000000, payload := [] } ∧ opOf 0xC0000000 = 3 ∧ ¬ReservedBitSet 0xC0000000 ∧
    State.reset.life = .detached ∧ (attached sensor300).life ≠ .detached := by
  unfold ReservedBitSet WellPresented
  decide

theorem witness_EachStepGivesOneResult :
    ∃ t, step (presenting .detached [{ word := 0x80000000, payload := [] }]) = .next t := ⟨_, rfl⟩

theorem witness_ConfigurationIsFixedWhileAttached :
    ∃ t e, (presenting (.attached sensor300) [encode (.sample 63 4095 true)]).life = .attached sensor300 ∧
      step (presenting (.attached sensor300) [encode (.sample 63 4095 true)]) = .next t ∧
      t.life = .attached e := ⟨_, _, rfl, rfl, rfl⟩

theorem witness_LifeChangesOnlyByAttachAndDetach :
    (∃ t d, exec (.attach .wheel 8 256 6) State.reset = .next t ∧ State.reset.life = .detached ∧
      t.life = .attached d) ∧
    (∃ t, exec .detach (attached sensor300) = .next t ∧ (attached sensor300).life = .attached sensor300 ∧
      t.life = .detached) := ⟨⟨_, _, rfl, rfl, rfl⟩, ⟨_, rfl, rfl, rfl⟩⟩

theorem witness_RefusalHasNoEffectAndMarkStays :
    (∃ t, step (presenting .detached [encode .detach]) = .next t ∧
      t.observed = (presenting .detached [encode .detach]).observed ++ [.refused .notAttached]) ∧
    (∃ t, step ((State.reset.refuse .reservedOp).presentNext (encode .detach)) = .next t ∧
      ¬MarkClear ((State.reset.refuse .reservedOp).presentNext (encode .detach))) :=
  ⟨⟨_, rfl, rfl⟩, ⟨_, rfl, by unfold MarkClear; decide⟩⟩

/-- A run that has observed a motion and a malformed frame, with an operation presented. -/
def observing : State :=
  { life := .attached sensor300, pending := [encode (.sample 63 4095 true)],
    observed := [.done .ok [.motion .axisSensor 5], .done .malformedFrame [], .refused .alreadyAttached] }

theorem witness_StepKeepsObservationLegal :
    ObservationLegal observing ∧ ∃ t, step observing = .next t := by
  refine ⟨?_, _, rfl⟩
  intro r hr
  simp only [observing, List.mem_cons, List.not_mem_nil, or_false] at hr
  rcases hr with rfl | rfl | rfl
  · exact ⟨.sensor, .inr (.inl ⟨5, by unfold DeltaInRange; decide, rfl⟩)⟩
  · rfl
  · trivial

theorem witness_WellPresentedRunCompletes :
    ∀ p ∈ (presenting .detached [encode (.attach .sensor 8 16 2), encode (.sample 20 100 false),
      { word := 0x80000106, payload := [0, 0, 0, 0, 0, 0] }, encode .detach]).pending, WellPresented p := by
  unfold WellPresented
  decide

theorem witness_StepStopsOnlyWithoutOperation :
    State.reset.pending = [] ∧ step State.reset = .fault .noOperation ∧
    step (presenting .detached [{ word := 0xC0000000, payload := [0] }]) = .refused .payloadMismatch :=
  ⟨rfl, rfl, rfl⟩

theorem witness_DevicesAreIsolated :
    ∃ after, stepDevice 1 [attached sensor300, presenting .detached [encode (.attach .wheel 8 256 6)]] =
      .next after := ⟨_, rfl⟩

end Sys2Proof.Tests
end

/-! ## The range of the position difference (R96, R111, R112) -/

namespace Sys2Proof.Machine

/-- The linear difference is at most the whole domain (R111). -/
theorem diff_sensor_natAbs_le (p r : Position) : (diff .sensor p r).natAbs ≤ 4095 := by
  have hp : p.toNat < 4096 := p.isLt
  have hr : r.toNat < 4096 := r.isLt
  simp only [diff, diffSensor, naiveDiff]
  omega

/-- The circular difference is at most half of the domain (R112, R113). -/
theorem diff_wheel_natAbs_le (p r : Position) : (diff .wheel p r).natAbs ≤ 2048 := by
  have hp : p.toNat < 4096 := p.isLt
  have hr : r.toNat < 4096 := r.isLt
  simp only [diff, diffWheel, naiveDiff, Config.halfDomain, Config.wheelDomain]
  split_ifs <;> omega

/-- The bound that holds for both variants (R96). -/
theorem diff_natAbs_le (v : Variant) (p r : Position) : (diff v p r).natAbs ≤ 4095 := by
  cases v with
  | sensor => exact diff_sensor_natAbs_le p r
  | wheel => exact (diff_wheel_natAbs_le p r).trans (by decide)

/-- A magnitude is scaled to zero exactly when the shift moves all of it out (R93, R99). -/
theorem scale_eq_zero_iff {raw : Int} {k : Nat} : scale raw k = 0 ↔ raw.natAbs < 2 ^ k := by
  have hpow : 0 < 2 ^ k := Nat.two_pow_pos k
  rw [scale, mul_eq_zero, Int.sign_eq_zero_iff_zero, Int.natCast_eq_zero, Nat.shiftRight_eq_div_pow,
    Nat.div_eq_zero_iff]
  omega

/-! ## What a sample does to the touch state, and when it moves -/

/-- After a sample the device is touching exactly if the sample was a touch (R90, R91, R94). -/
theorem track_touching (c : DeviceConfig) (t : TrackerState) (x : Sample) :
    (track c t x).2.touching = above c x := by
  rcases track_cases c t x with ⟨_, ha, h⟩ | ⟨ht, ha, h⟩ | ⟨_, ha, h⟩ | ⟨ht, ha, h⟩
  · simp [h, ha, touchBegin]
  · rw [h, ha, touchContinue]
    split <;> exact ht
  · simp [h, ha, touchEnd]
  · simp [h, ha, ht, noTouch]

/-- The tracker's event, if there is one: a touch continued across the threshold, and its scaled
difference (R92). -/
theorem track_event_iff {c : DeviceConfig} {t : TrackerState} {x : Sample} {e : Event} :
    (track c t x).1 = some e ↔
      t.touching = true ∧ above c x = true ∧ crosses c (rawDelta c t x) = true ∧
        e = .motion (axisOf c.variant) (scale (rawDelta c t x) c.movementBitshift.toNat) := by
  rcases track_cases c t x with ⟨ht, _, h⟩ | ⟨ht, ha, h⟩ | ⟨_, ha, h⟩ | ⟨ht, _, h⟩
  · simp [h, ht, touchBegin]
  · by_cases hc : crosses c (rawDelta c t x) = true <;>
      simp [h, ht, ha, hc, touchContinue, eq_comm]
  · simp [h, ha, touchEnd]
  · simp [h, ht, noTouch]

/-- The edge detector emits press events only (R120). -/
theorem pressEdge_ne_motion (v : Variant) (latched pressed : Bool) (axis : AxisId) (delta : Int) :
    (pressEdge v latched pressed).1 ≠ some (.motion axis delta) := by
  unfold pressEdge
  split_ifs <;> simp

/-- The motion events of a processed sample are the tracker's (R133). -/
theorem motion_mem_processSample_iff_track {d : Device} {x : Sample} {axis : AxisId} {delta : Int} :
    .motion axis delta ∈ (processSample d x).1 ↔
      (track d.config d.tracker x).1 = some (.motion axis delta) := by
  simp [processSample, Option.mem_toList, pressEdge_ne_motion]

/-- When a sample moves, on which axis and by how much (R92). -/
theorem motion_mem_processSample_iff {d : Device} {x : Sample} {axis : AxisId} {delta : Int} :
    .motion axis delta ∈ (processSample d x).1 ↔
      d.tracker.touching = true ∧ above d.config x = true ∧
        crosses d.config (rawDelta d.config d.tracker x) = true ∧ axis = axisOf d.config.variant ∧
          delta = scale (rawDelta d.config d.tracker x) d.config.movementBitshift.toNat := by
  rw [motion_mem_processSample_iff_track, track_event_iff, Event.motion.injEq]

/-- A difference within the threshold emits no motion event (R92). -/
theorem processSample_isMotion_eq_false {d : Device} {x : Sample}
    (h : (rawDelta d.config d.tracker x).natAbs ≤ d.config.positionChangeThreshold.toNat) :
    ∀ e ∈ (processSample d x).1, isMotion e = false := by
  intro e he
  cases e with
  | press button pressed => rfl
  | motion axis delta =>
    obtain ⟨_, _, hcross, _⟩ := motion_mem_processSample_iff.mp he
    exact absurd (crosses_eq_true.mp hcross) h.not_gt

/-- Settles O32: `above` compares a weight below 64, and the extreme thresholds and shifts meet the bounds
of the position difference. -/
theorem extremeConfigurations : Obligations.ExtremeConfigurations := by
  intro d x
  refine ⟨fun hwt => ?_, fun hwt => ?_, fun hv hpct => ?_, fun hv hpct => ?_,
    fun hshift axis delta hmem => ?_⟩
  · rw [processSample_touching, track_touching, above_eq_true, hwt]
    exact Nat.zero_le _
  · rw [processSample_touching, track_touching, above_eq_false]
    exact Nat.lt_of_lt_of_le x.weight.isLt hwt
  · refine processSample_isMotion_eq_false (le_trans ?_ hpct)
    rw [rawDelta, hv]
    exact diff_wheel_natAbs_le _ _
  · refine processSample_isMotion_eq_false ?_
    rw [rawDelta, hv, hpct]
    exact diff_sensor_natAbs_le _ _
  · obtain ⟨_, _, _, _, rfl⟩ := motion_mem_processSample_iff.mp hmem
    have hraw : (rawDelta d.config d.tracker x).natAbs < 2 ^ 12 :=
      Nat.lt_succ_of_le (diff_natAbs_le _ _ _)
    exact scale_eq_zero_iff.mpr (hraw.trans_le (Nat.pow_le_pow_right (by decide) hshift))

/-! ## What an instruction does to the lifecycle

First the arms of `exec` that do not touch it: the three spellings of PROCESS (R61, R75, R133) and the
reserved code (R69). -/

theorem exec_process (payload : List Byte) (s : State) :
    exec (.process payload) s = .next (processPayload payload s) := rfl

theorem exec_frame48 (b0 b1 b2 b3 b4 b5 : Byte) (s : State) :
    exec (.frame48 b0 b1 b2 b3 b4 b5) s = .next (processPayload [b0, b1, b2, b3, b4, b5] s) := rfl

theorem exec_sample (weight : Weight) (position : Position) (pressed : Bool) (s : State) :
    exec (.sample weight position pressed) s =
      .next (processPayload (sampleBytes weight position pressed) s) := rfl

theorem exec_reserved (rest : BitVec 30) (s : State) :
    exec (.reserved rest) s = .next (s.refuse .reservedOp) := rfl

/-- PROCESS leaves a device Attached or Detached as it was (R133). -/
theorem processPayload_detached_iff (payload : List Byte) (s : State) :
    (processPayload payload s).life = .detached ↔ s.life = .detached := by
  rcases processPayload_cases payload s with ⟨_, h⟩ | ⟨_, _, _, h⟩ | ⟨d, x, hs, _, h⟩
  · rw [h, State.refuse_life]
  · rw [h, State.reportMalformed_life]
  · rw [h, takeSample_life, hs]
    simp

/-- After ATTACH the device is Attached, whether the operation took effect or was refused (R130, R131). -/
theorem exec_attach_life_ne_detached {v : Variant} {wt : BitVec 8} {pct : BitVec 12} {shift : BitVec 4}
    {s t : State} (h : exec (.attach v wt pct shift) s = .next t) : t.life ≠ .detached := by
  cases hs : s.life with
  | attached d =>
    simp only [exec, execAttach, hs, Host.Outcome.next.injEq] at h
    simp [← h, hs]
  | detached =>
    simp only [exec, execAttach, hs, Host.Outcome.next.injEq] at h
    simp [← h]

/-- After DETACH the device is Detached, whether the operation took effect or was refused (R140, R156). -/
theorem exec_detach_life {s t : State} (h : exec .detach s = .next t) : t.life = .detached := by
  simp only [exec, execDetach, Host.Outcome.next.injEq] at h
  cases hs : s.life with
  | attached d => simp [← h, whenAttached_of_attached hs]
  | detached => simp [← h, whenAttached_of_detached hs, hs]

/-- An instruction is an ATTACH, a DETACH, or leaves the device Attached or Detached as it was (R21). -/
theorem exec_life_cases {i : Instr} {s t : State} (h : exec i s = .next t) :
    (∃ v wt pct shift, i = .attach v wt pct shift) ∨ i = .detach ∨
      (t.life = .detached ↔ s.life = .detached) := by
  cases i with
  | attach v wt pct shift => exact .inl ⟨v, wt, pct, shift, rfl⟩
  | detach => exact .inr (.inl rfl)
  | process payload =>
    cases h.symm.trans (exec_process payload s)
    exact .inr (.inr (processPayload_detached_iff _ s))
  | frame48 b0 b1 b2 b3 b4 b5 =>
    cases h.symm.trans (exec_frame48 b0 b1 b2 b3 b4 b5 s)
    exact .inr (.inr (processPayload_detached_iff _ s))
  | sample weight position pressed =>
    cases h.symm.trans (exec_sample weight position pressed s)
    exact .inr (.inr (processPayload_detached_iff _ s))
  | reserved rest =>
    cases h.symm.trans (exec_reserved rest s)
    exact .inr (.inr (by rw [State.refuse_life]))

/-- Settles O44: ATTACH ends Attached, DETACH ends Detached, and no other instruction changes which of the
two the device is. -/
theorem lifeChangesOnlyByAttachAndDetach : Obligations.LifeChangesOnlyByAttachAndDetach := by
  intro i s t h
  rcases exec_life_cases h with ⟨v, wt, pct, shift, rfl⟩ | rfl | hiff
  · exact ⟨fun _ _ _ => ⟨v, wt, pct, shift, rfl⟩,
      fun _ _ ht => absurd ht (exec_attach_life_ne_detached h)⟩
  · exact ⟨fun _ _ ht => by simp [exec_detach_life h] at ht, fun _ _ _ => rfl⟩
  · exact ⟨fun _ hs ht => by simp [hiff.mpr hs] at ht, fun _ hs ht => by simp [hiff.mp ht] at hs⟩

end Sys2Proof.Machine

/-! ## A repeated frame is silent (R46) -/

namespace Sys2Proof.Machine

/-- The latch of the press detector ends at the value pressed (R120). -/
@[simp] theorem pressEdge_snd (v : Variant) (latched pressed : Bool) :
    (pressEdge v latched pressed).2 = pressed := by
  by_cases h : pressed = latched <;> simp [pressEdge, h]

/-- Without an edge the press detector emits nothing (R120). -/
@[simp] theorem pressEdge_self (v : Variant) (pressed : Bool) :
    pressEdge v pressed pressed = (none, pressed) := by
  simp [pressEdge]

/-- A position does not differ from itself (R111, R112). -/
@[simp] theorem diff_self (v : Variant) (p : Position) : diff v p p = 0 := by
  cases v <;> simp [diff, diffSensor, diffWheel, naiveDiff, Config.halfDomain]

/-- A zero difference crosses no threshold, not even threshold 0 (R92). -/
@[simp] theorem crosses_zero (c : DeviceConfig) : crosses c 0 = false := by
  simp [crosses]

/-- A sample that agrees with the touch state and, if it is a touch, stays within the threshold has no
effect on the tracker (R92, R95). -/
theorem track_eq_self {c : DeviceConfig} {t : TrackerState} {x : Sample} (htouch : t.touching = above c x)
    (hstay : t.touching = true → crosses c (rawDelta c t x) = false) : track c t x = (none, t) := by
  rcases track_cases c t x with ⟨ht, ha, _⟩ | ⟨ht, _, h⟩ | ⟨ht, ha, _⟩ | ⟨_, _, h⟩
  · simp [ht, ha] at htouch
  · simp [h, touchContinue, hstay ht]
  · simp [ht, ha] at htouch
  · exact h

/-- A tracker that touches after a sample has that sample within the threshold of its reference: either
the reference is the sample's position, or the sample did not cross (R91, R92). -/
theorem crosses_rawDelta_track {c : DeviceConfig} {t : TrackerState} {x : Sample}
    (htouch : (track c t x).2.touching = true) :
    crosses c (rawDelta c (track c t x).2 x) = false := by
  rcases track_cases c t x with ⟨_, _, h⟩ | ⟨_, _, h⟩ | ⟨_, ha, _⟩ | ⟨_, ha, _⟩
  · simp [h, touchBegin, rawDelta]
  · cases hc : crosses c (rawDelta c t x) with
    | true => rw [h, touchContinue, if_pos hc]; simp [rawDelta]
    | false => simp [h, touchContinue, hc]
  · simp [track_touching, ha] at htouch
  · simp [track_touching, ha] at htouch

/-- A sample that neither the tracker nor the press detector reacts to leaves the device as it is and
emits nothing (R133). -/
theorem processSample_eq_self {d : Device} {x : Sample}
    (htrack : track d.config d.tracker x = (none, d.tracker))
    (hlatch : d.tracker.pressLatched = x.pressed) : processSample d x = ([], d) := by
  simp [processSample, htrack, ← hlatch]

/-- A device that has taken a sample does not react to the same sample again (R46). -/
theorem processSample_repeat (d : Device) (x : Sample) :
    processSample (processSample d x).2 x = ([], (processSample d x).2) := by
  refine processSample_eq_self (track_eq_self ?_ fun htouch => ?_) ?_
  · exact track_touching d.config d.tracker x
  · exact crosses_rawDelta_track htouch
  · exact pressEdge_snd _ _ _

/-- PROCESS of one frame on an Attached device takes its sample (R133). -/
theorem exec_process_six {s : State} {d : Device} (h : s.life = .attached d) (b0 b1 b2 b3 b4 b5 : Byte) :
    exec (.process [b0, b1, b2, b3, b4, b5]) s = .next (takeSample s d (decode6 b0 b1 b2 b4)) := by
  simp [exec_process, processPayload, whenAttached_of_attached h]

/-- A sample that the device does not react to only adds an empty result. -/
theorem takeSample_eq_of_processSample_eq_self {s : State} {d : Device} {x : Sample}
    (hlife : s.life = .attached d) (h : processSample d x = ([], d)) :
    takeSample s d x = { s with observed := s.observed ++ [.done .ok []] } := by
  rw [takeSample, h, ← hlife]
  rfl

/-- Settles O18: the device left by the first PROCESS does not react to the same sample. -/
theorem repeatedFrameIsSilent : Obligations.RepeatedFrameIsSilent := by
  intro s t d b0 b1 b2 b3 b4 b5 hs ht
  rw [exec_process_six hs] at ht
  cases ht
  rw [exec_process_six (takeSample_life s d _),
    takeSample_eq_of_processSample_eq_self (takeSample_life s d _) (processSample_repeat d _)]

/-! ## What one operation does to the run: it is taken, and one result is added (R48, R142) -/

/-- ATTACH of an Attached device is refused (R131). -/
theorem exec_attach_of_attached {s : State} {d : Device} (h : s.life = .attached d) (v : Variant)
    (wt : BitVec 8) (pct : BitVec 12) (shift : BitVec 4) :
    exec (.attach v wt pct shift) s = .next (s.refuse .alreadyAttached) := by
  simp only [exec, execAttach, h]

/-- ATTACH of a Detached device attaches it with this configuration (R130, R171). -/
theorem exec_attach_of_detached {s : State} (h : s.life = .detached) (v : Variant) (wt : BitVec 8)
    (pct : BitVec 12) (shift : BitVec 4) :
    exec (.attach v wt pct shift) s =
      .next ((s.setLife (.attached ⟨⟨v, wt, pct, shift⟩, freshTracker⟩)).complete .ok []) := by
  simp only [exec, execAttach, h]

/-- DETACH of an Attached device detaches it (R140). -/
theorem exec_detach_of_attached {s : State} {d : Device} (h : s.life = .attached d) :
    exec .detach s = .next ((s.setLife .detached).complete .ok []) := by
  simp only [exec, execDetach, whenAttached_of_attached h]

/-- DETACH of a Detached device is refused (R156). -/
theorem exec_detach_of_detached {s : State} (h : s.life = .detached) :
    exec .detach s = .next (s.refuse .notAttached) := by
  simp only [exec, execDetach, whenAttached_of_detached h]

/-- Whatever its payload, PROCESS answers, and writes no more than the lifecycle and one result. -/
theorem execProcess_eq_record (payload : List Byte) (s : State) :
    ∃ l r, execProcess payload s = .next ((s.setLife l).record r) := by
  rcases processPayload_cases payload s with ⟨_, h⟩ | ⟨_, _, _, h⟩ | ⟨_, _, _, _, h⟩
  · exact ⟨s.life, _, congrArg _ h⟩
  · exact ⟨s.life, _, congrArg _ h⟩
  · exact ⟨_, _, congrArg _ h⟩

/-- Every instruction answers, and writes no more than the lifecycle and one result (R20, R34). -/
theorem exec_eq_record (i : Instr) (s : State) :
    ∃ l r, exec i s = .next ((s.setLife l).record r) := by
  cases i with
  | attach v wt pct shift =>
    cases hs : s.life with
    | attached d => exact ⟨s.life, _, exec_attach_of_attached hs v wt pct shift⟩
    | detached => exact ⟨_, _, exec_attach_of_detached hs v wt pct shift⟩
  | detach =>
    cases hs : s.life with
    | attached d => exact ⟨_, _, exec_detach_of_attached hs⟩
    | detached => exact ⟨s.life, _, exec_detach_of_detached hs⟩
  | reserved rest => exact ⟨s.life, _, exec_reserved rest s⟩
  | process payload => exact execProcess_eq_record payload s
  | frame48 b0 b1 b2 b3 b4 b5 => exact execProcess_eq_record _ s
  | sample weight position pressed => exact execProcess_eq_record _ s

/-- A step that answers takes the first presentation, and writes no more than the lifecycle and one
result. -/
theorem step_eq_record {s t : State} (h : step s = .next t) :
    ∃ p rest l r, s.pending = p :: rest ∧
      t = (State.setLife { s with pending := rest } l).record r := by
  obtain ⟨p, rest, hp, ⟨i, _, hexec⟩ | ⟨_, rfl⟩⟩ := step_next_cases h
  · obtain ⟨l, r, hrecord⟩ := exec_eq_record i { s with pending := rest }
    exact ⟨p, rest, l, r, hp, Host.Outcome.next.inj (hexec.symm.trans hrecord)⟩
  · exact ⟨p, rest, s.life, .refused .reservedBits, hp, rfl⟩

/-- Settles O42: what remains pending and what is observed are read off the shape of the next state. -/
theorem eachStepGivesOneResult : Obligations.EachStepGivesOneResult := by
  intro s t h
  obtain ⟨p, rest, l, r, hp, rfl⟩ := step_eq_record h
  exact ⟨p, r, hp, rfl⟩

/-- A presentation that decodes is carried out on the state without it (R48, R73). -/
theorem step_of_decode_ok {s : State} {p : Presentation} {rest : List Presentation} {i : Instr}
    (hp : s.pending = p :: rest) (hd : decode p = .ok i) : step s = exec i { s with pending := rest } := by
  simp only [step, fetch_cons hp, hd]

/-- Settles O39, by the step's own two stages. -/
theorem stepRunsDecodedInstruction : Obligations.StepRunsDecodedInstruction :=
  fun _ _ _ _ => step_of_decode_ok

/-! ## Several devices (R47) -/

/-- An operation on device `k` answers exactly if that device's step does, and puts its next state in the
device's place. -/
theorem stepDevice_eq_next_iff {k : Nat} {devices after : List State} :
    stepDevice k devices = .next after ↔
      ∃ s t, devices[k]? = some s ∧ step s = .next t ∧ after = devices.set k t := by
  cases hk : devices[k]? with
  | none => simp [stepDevice, hk]
  | some s => cases hstep : step s <;> simp [stepDevice, hk, hstep, eq_comm]

/-- Settles O49: only place `k` is written, with a state that the old device `k` determines. -/
theorem devicesAreIsolated : Obligations.DevicesAreIsolated := by
  intro k devices after h
  obtain ⟨s, t, hk, hstep, rfl⟩ := stepDevice_eq_next_iff.mp h
  refine ⟨List.length_set, fun j hj => List.getElem?_set_ne hj.symm, fun others hothers => ?_⟩
  refine ⟨others.set k t, stepDevice_eq_next_iff.mpr ⟨s, t, hothers.trans hk, hstep, rfl⟩, ?_⟩
  rw [List.getElem?_set_self', List.getElem?_set_self', hothers]

end Sys2Proof.Machine

/-! ## The command words: their fields, and the decoder's checks (R65 to R69, R73) -/

namespace Sys2Proof.Machine

/-- The fields of a CMD-A word, from bit 0 up (R67): variant, reserved bits, weight threshold,
position-change threshold, movement shift. -/
theorem attachWord_fields (v : Variant) (wt : BitVec 8) (pct : BitVec 12) (shift : BitVec 4) :
    (attachWord v wt pct shift).extractLsb' 0 1 = variantCode v ∧
    (attachWord v wt pct shift).extractLsb' 1 5 = 0#5 ∧
    (attachWord v wt pct shift).extractLsb' 6 8 = wt ∧
    (attachWord v wt pct shift).extractLsb' 14 12 = pct ∧
    (attachWord v wt pct shift).extractLsb' 26 4 = shift := by
  unfold attachWord
  refine ⟨?_, ?_, ?_, ?_, ?_⟩ <;> ext i hi <;> interval_cases i <;> simp

/-- The fields of a CMD-P word, from bit 0 up (R66): length, reserved bits, operation code. -/
theorem processWord_fields (len : BitVec 8) :
    (processWord len).extractLsb' 0 8 = len ∧ (processWord len).extractLsb' 8 22 = 0#22 ∧
      opOf (processWord len) = 0b10#2 := by
  unfold opOf processWord
  refine ⟨?_, ?_, ?_⟩ <;> ext i hi <;> interval_cases i <;> simp

/-- The other bits of a reserved word (R69). -/
theorem reservedWord_rest (rest : BitVec 30) : (reservedWord rest).extractLsb' 0 30 = rest := by
  unfold reservedWord
  ext i hi
  simp [hi, Nat.lt_of_lt_of_le hi]

@[simp] theorem variantOf_variantCode (v : Variant) : variantOf (variantCode v) = v := by
  cases v <;> rfl

@[simp] theorem variantCode_variantOf (c : BitVec 1) : variantCode (variantOf c) = c := by
  revert c
  decide

/-- A word is its operation code and its other 30 bits (R65). -/
theorem word_eq_of_opOf {w w' : Word} (hop : opOf w = opOf w')
    (hrest : w.extractLsb' 0 30 = w'.extractLsb' 0 30) : w = w' := by
  have hw := w.isLt
  have hw' := w'.isLt
  simp only [opOf, ← BitVec.toNat_inj, BitVec.extractLsb'_toNat, Nat.shiftRight_eq_div_pow] at *
  omega

/-- The 30 bits of a CMD-A word are its five fields (R67). -/
theorem attach_fields_inj {w w' : Word} (hvariant : w.extractLsb' 0 1 = w'.extractLsb' 0 1)
    (hreserved : w.extractLsb' 1 5 = w'.extractLsb' 1 5) (hwt : w.extractLsb' 6 8 = w'.extractLsb' 6 8)
    (hpct : w.extractLsb' 14 12 = w'.extractLsb' 14 12)
    (hshift : w.extractLsb' 26 4 = w'.extractLsb' 26 4) :
    w.extractLsb' 0 30 = w'.extractLsb' 0 30 := by
  simp only [← BitVec.toNat_inj, BitVec.extractLsb'_toNat, Nat.shiftRight_eq_div_pow] at *
  omega

/-- The 30 bits of a CMD-P word are its two fields (R66). -/
theorem process_fields_inj {w w' : Word} (hlen : w.extractLsb' 0 8 = w'.extractLsb' 0 8)
    (hreserved : w.extractLsb' 8 22 = w'.extractLsb' 8 22) :
    w.extractLsb' 0 30 = w'.extractLsb' 0 30 := by
  simp only [← BitVec.toNat_inj, BitVec.extractLsb'_toNat, Nat.shiftRight_eq_div_pow] at *
  omega

/-- A CMD-A word with no reserved bit set is the one of its fields (R67). -/
theorem attachWord_of_fields {w : Word} (hop : opOf w = 0b01#2) (hreserved : w.extractLsb' 1 5 = 0#5) :
    attachWord (variantOf (w.extractLsb' 0 1)) (w.extractLsb' 6 8) (w.extractLsb' 14 12)
      (w.extractLsb' 26 4) = w := by
  obtain ⟨hvariant, hreserved', hwt, hpct, hshift⟩ := attachWord_fields
    (variantOf (w.extractLsb' 0 1)) (w.extractLsb' 6 8) (w.extractLsb' 14 12) (w.extractLsb' 26 4)
  refine word_eq_of_opOf ?_ (attach_fields_inj ?_ ?_ hwt hpct hshift)
  · rw [Laws.Announced.opOf_attachWord, hop]
  · rw [hvariant, variantCode_variantOf]
  · rw [hreserved', hreserved]

/-- A CMD-P word with no reserved bit set is the one of its length (R66). -/
theorem processWord_of_length {w : Word} (hop : opOf w = 0b10#2) (hreserved : w.extractLsb' 8 22 = 0#22) :
    processWord (w.extractLsb' 0 8) = w := by
  obtain ⟨hlen, hreserved', hop'⟩ := processWord_fields (w.extractLsb' 0 8)
  exact word_eq_of_opOf (hop'.trans hop.symm) (process_fields_inj hlen (hreserved'.trans hreserved.symm))

/-- A CMD-D word with no reserved bit set is the one word of R68. -/
theorem detachWord_of_reservedBits {w : Word} (hop : opOf w = 0b11#2)
    (hreserved : w.extractLsb' 0 30 = 0#30) : detachWord = w :=
  word_eq_of_opOf hop.symm hreserved.symm

/-- A word with operation code 0b00 is the one of its other bits (R69). -/
theorem reservedWord_of_rest {w : Word} (hop : opOf w = 0b00#2) :
    reservedWord (w.extractLsb' 0 30) = w :=
  word_eq_of_opOf (by rw [Laws.Announced.opOf_reservedWord, hop]) (reservedWord_rest _)

/-! ### Which decoder a word goes to (R73) -/

theorem decode_of_op_reserved {p : Presentation} (hop : opOf p.word = 0b00#2) :
    decode p = .ok (.reserved (p.word.extractLsb' 0 30)) := by
  simp [decode, hop]

theorem decode_of_op_attach {p : Presentation} (hop : opOf p.word = 0b01#2) :
    decode p = decodeAttach p := by
  simp [decode, hop]

theorem decode_of_op_process {p : Presentation} (hop : opOf p.word = 0b10#2) :
    decode p = decodeProcess p := by
  simp [decode, hop]

theorem decode_of_op_detach {p : Presentation} (hop : opOf p.word = 0b11#2) :
    decode p = decodeDetach p := by
  simp [decode, hop]

/-- The four operation codes (R65). -/
theorem opOf_cases (w : Word) :
    opOf w = 0b00#2 ∨ opOf w = 0b01#2 ∨ opOf w = 0b10#2 ∨ opOf w = 0b11#2 := by
  generalize opOf w = c
  revert c
  decide

/-! ### What each decoder accepts -/

theorem decodeAttach_eq_ok_iff {p : Presentation} {i : Instr} :
    decodeAttach p = .ok i ↔ p.word.extractLsb' 1 5 = 0#5 ∧ p.payload = [] ∧
      i = .attach (variantOf (p.word.extractLsb' 0 1)) (p.word.extractLsb' 6 8)
        (p.word.extractLsb' 14 12) (p.word.extractLsb' 26 4) := by
  unfold decodeAttach
  split_ifs <;> simp_all [eq_comm]

theorem decodeProcess_eq_ok_iff {p : Presentation} {i : Instr} :
    decodeProcess p = .ok i ↔ p.word.extractLsb' 8 22 = 0#22 ∧
      p.payload.length = (p.word.extractLsb' 0 8).toNat ∧ i = .process p.payload := by
  unfold decodeProcess
  split_ifs <;> simp_all [eq_comm]

theorem decodeDetach_eq_ok_iff {p : Presentation} {i : Instr} :
    decodeDetach p = .ok i ↔ p.word.extractLsb' 0 30 = 0#30 ∧ p.payload = [] ∧ i = .detach := by
  unfold decodeDetach
  split_ifs <;> simp_all [eq_comm]

/-! ## Decode and encode agree -/

/-- A CMD-A word decodes to the ATTACH it carries (R67). -/
theorem decode_encode_attach (v : Variant) (wt : BitVec 8) (pct : BitVec 12) (shift : BitVec 4) :
    decode (encode (.attach v wt pct shift)) = .ok (.attach v wt pct shift) := by
  have hop : opOf (encode (.attach v wt pct shift)).word = 0b01#2 :=
    Laws.Announced.opOf_attachWord v wt pct shift
  rw [decode_of_op_attach hop, decodeAttach_eq_ok_iff]
  obtain ⟨hvariant, hreserved, hwt, hpct, hshift⟩ := attachWord_fields v wt pct shift
  refine ⟨hreserved, rfl, ?_⟩
  rw [encode, hvariant, hwt, hpct, hshift, variantOf_variantCode]

/-- A presented payload that the length field can announce decodes to its PROCESS (R66). -/
theorem decode_presentPayload {payload : List Byte} (hlen : payload.length ≤ Config.maxPayload) :
    decode (presentPayload payload) = .ok (.process payload) := by
  obtain ⟨hfield, hreserved, hop⟩ := processWord_fields (BitVec.ofNat 8 payload.length)
  have hop' : opOf (presentPayload payload).word = 0b10#2 := hop
  rw [decode_of_op_process hop', decodeProcess_eq_ok_iff]
  refine ⟨hreserved, ?_, rfl⟩
  rw [presentPayload, hfield, BitVec.toNat_ofNat]
  exact (Nat.mod_eq_of_lt (Nat.lt_succ_of_le hlen)).symm

/-- A reserved word decodes to the RESERVED it carries (R69). -/
theorem decode_encode_reserved (rest : BitVec 30) :
    decode (encode (.reserved rest)) = .ok (.reserved rest) := by
  have hop : opOf (encode (.reserved rest)).word = 0b00#2 := Laws.Announced.opOf_reservedWord rest
  rw [decode_of_op_reserved hop, encode, reservedWord_rest]

/-- Settles O35, constructor by constructor: the fields of the word that `encode` builds are read back. -/
theorem decodeOfEncode : Obligations.DecodeOfEncode := by
  intro i hwf
  cases i with
  | attach v wt pct shift => exact decode_encode_attach v wt pct shift
  | process payload => exact decode_presentPayload (by simpa only [wellFormed, decide_eq_true_eq] using hwf)
  | detach => decide
  | reserved rest => exact decode_encode_reserved rest
  | frame48 b0 b1 b2 b3 b4 b5 =>
    exact decode_presentPayload (payload := [b0, b1, b2, b3, b4, b5])
      (show 6 ≤ 255 by decide)
  | sample weight position pressed =>
    exact decode_presentPayload (payload := sampleBytes weight position pressed)
      (show 6 ≤ 255 by decide)

/-- An accepted CMD-A word is the encoding of its ATTACH (R67). -/
theorem encode_of_decodeAttach {p : Presentation} {i : Instr} (hop : opOf p.word = 0b01#2)
    (h : decodeAttach p = .ok i) : wellFormed i = true ∧ coreOf i = i ∧ encode i = p := by
  obtain ⟨hreserved, hpayload, rfl⟩ := decodeAttach_eq_ok_iff.mp h
  refine ⟨rfl, rfl, ?_⟩
  rw [encode, attachWord_of_fields hop hreserved, ← hpayload]

/-- An accepted CMD-P word with its payload is the encoding of its PROCESS (R66). -/
theorem encode_of_decodeProcess {p : Presentation} {i : Instr} (hop : opOf p.word = 0b10#2)
    (h : decodeProcess p = .ok i) : wellFormed i = true ∧ coreOf i = i ∧ encode i = p := by
  obtain ⟨hreserved, hlen, rfl⟩ := decodeProcess_eq_ok_iff.mp h
  refine ⟨?_, rfl, ?_⟩
  · simp only [wellFormed, hlen, decide_eq_true_eq]
    exact Nat.le_of_lt_succ (p.word.extractLsb' 0 8).isLt
  · rw [encode, presentPayload, hlen, BitVec.ofNat_toNat, BitVec.setWidth_eq,
      processWord_of_length hop hreserved]

/-- An accepted CMD-D word is the encoding of DETACH (R68). -/
theorem encode_of_decodeDetach {p : Presentation} {i : Instr} (hop : opOf p.word = 0b11#2)
    (h : decodeDetach p = .ok i) : wellFormed i = true ∧ coreOf i = i ∧ encode i = p := by
  obtain ⟨hreserved, hpayload, rfl⟩ := decodeDetach_eq_ok_iff.mp h
  refine ⟨rfl, rfl, ?_⟩
  rw [encode, detachWord_of_reservedBits hop hreserved, ← hpayload]

/-- What decodes to no RESERVED is the encoding of its instruction, payload and all (R73). -/
theorem encode_of_decode {p : Presentation} {i : Instr} (hop : opOf p.word ≠ 0b00#2)
    (h : decode p = .ok i) : wellFormed i = true ∧ coreOf i = i ∧ encode i = p := by
  rcases opOf_cases p.word with hop' | hop' | hop' | hop'
  · exact absurd hop' hop
  · exact encode_of_decodeAttach hop' (decode_of_op_attach hop' ▸ h)
  · exact encode_of_decodeProcess hop' (decode_of_op_process hop' ▸ h)
  · exact encode_of_decodeDetach hop' (decode_of_op_detach hop' ▸ h)

/-- Settles O36: a RESERVED keeps its word, and the words of the other three codes are determined by the
fields their decoder reads. -/
theorem encodeOfDecode : Obligations.EncodeOfDecode := by
  intro p i h
  by_cases hop : opOf p.word = 0
  · cases (decode_of_op_reserved hop).symm.trans h
    exact ⟨rfl, rfl, reservedWord_of_rest hop, fun hne => absurd hop hne⟩
  · obtain ⟨hwf, hcore, rfl⟩ := encode_of_decode hop h
    exact ⟨hwf, hcore, rfl, fun _ => rfl⟩

/-! ## A step on an encoded instruction (R48, R60) -/

/-- FRAME48 and SAMPLE run as the PROCESS they spell (R75, R76). -/
theorem exec_coreOf (i : Instr) (s : State) : exec (coreOf i) s = exec i s := by
  cases i <;> rfl

/-- Settles O40: the encoding decodes to the core operation, which runs as the instruction does. -/
theorem stepRunsEncodedInstruction : Obligations.StepRunsEncodedInstruction := by
  intro s rest i hwf hp
  rw [step_of_decode_ok hp (decodeOfEncode i hwf), exec_coreOf]

/-! ## Refused words (R69, R155) -/

/-- Masking with the bits of a field leaves 0 exactly if the field is 0. -/
theorem and_fieldMask_eq_zero_iff (w : Word) {start len : Nat} (hfit : start + len ≤ 32) :
    w &&& ((BitVec.allOnes len).setWidth 32 <<< start) = 0#32 ↔ w.extractLsb' start len = 0#len := by
  constructor
  · intro h
    ext i hi
    have hbit := congrArg (·.getLsbD (start + i)) h
    simpa [hi, show start + i < 32 by omega] using hbit
  · intro h
    ext j hj
    by_cases hmask : start ≤ j ∧ j - start < len
    · have hbit : w[j] = false := by
        simpa [hmask, BitVec.getLsbD_eq_getElem hj] using congrArg (·.getLsbD (j - start)) h
      simp [hbit]
    · have hout : start ≤ j → len ≤ j - start := by omega
      simpa using fun _ => hout

/-- A word with a reserved bit set does not decode, whatever payload is presented with it (R69, R152). -/
theorem decode_of_reservedBitSet {p : Presentation} (h : ReservedBitSet p.word) :
    decode p = .error .reservedBits := by
  rcases h with ⟨hop, hbits⟩ | ⟨hop, hbits⟩ | ⟨hop, hbits⟩
  · have hfield : p.word.extractLsb' 1 5 ≠ 0#5 :=
      mt (and_fieldMask_eq_zero_iff p.word (by decide)).mpr hbits
    rw [decode_of_op_attach hop, decodeAttach, if_pos hfield]
  · have hfield : p.word.extractLsb' 8 22 ≠ 0#22 :=
      mt (and_fieldMask_eq_zero_iff p.word (by decide)).mpr hbits
    rw [decode_of_op_process hop, decodeProcess, if_pos hfield]
  · have hfield : p.word.extractLsb' 0 30 ≠ 0#30 :=
      mt (and_fieldMask_eq_zero_iff p.word (by decide)).mpr hbits
    rw [decode_of_op_detach hop, decodeDetach, if_pos hfield]

/-- Settles O37: the reserved code decodes to RESERVED, which `exec` refuses, and a reserved bit is refused
by the step itself. -/
theorem reservedEncodingsAreRefused : Obligations.ReservedEncodingsAreRefused := by
  intro s p rest hp
  refine ⟨fun hop => ?_, fun hbits => ?_⟩
  · exact (step_of_decode_ok hp (decode_of_op_reserved hop)).trans (exec_reserved _ _)
  · simp only [step, fetch_cons hp, decode_of_reservedBitSet hbits, rejectPresentation_reservedBits]
    rfl

/-- Settles O6, by the meaning of RESERVED. -/
theorem reservedCodeIsRefused : Obligations.ReservedCodeIsRefused :=
  exec_reserved

end Sys2Proof.Machine

/-! ## Sanity statements on words and lines (R65 to R69, R74, R75) -/

namespace Sys2Proof.Machine

/-- Settles O33, by evaluating the decoder on each word. -/
theorem commandWordsDecode : Obligations.CommandWordsDecode := by
  unfold Obligations.CommandWordsDecode
  decide

/-- Settles O34, by evaluating the assembler on each line. -/
theorem textStandsForInstructions : Obligations.TextStandsForInstructions := by
  unfold Obligations.TextStandsForInstructions
  decide

/-! ## The fields of a frame (R62, R63, R75) -/

/-- The weight is the low six bits of byte 0 (R62). -/
theorem weightField_toNat (b0 : Byte) : (weightField b0).toNat = b0.toNat % 64 := by
  revert b0
  decide

/-- The position is the low four bits of byte 1, then byte 2 (R42, R62). -/
theorem positionField_toNat (b1 b2 : Byte) :
    (positionField b1 b2).toNat = 256 * (b1.toNat % 16) + b2.toNat := by
  have hhigh : (positionField b1 b2).extractLsb' 8 4 = b1.setWidth 4 := by
    unfold positionField
    ext i hi
    interval_cases i <;> simp
  have hlow : (positionField b1 b2).extractLsb' 0 8 = b2 := by
    unfold positionField
    ext i hi
    interval_cases i <;> simp
  have hlt := (positionField b1 b2).isLt
  simp only [← BitVec.toNat_inj, BitVec.extractLsb'_toNat, BitVec.toNat_setWidth,
    Nat.shiftRight_eq_div_pow] at hhigh hlow
  omega

/-- The press flag tests the whole of byte 4 (R62, R63). -/
theorem pressedField_eq_true_iff (b4 : Byte) : pressedField b4 = true ↔ b4.toNat ≠ 0 := by
  simp [pressedField, ← BitVec.toNat_inj]

/-- Bytes that agree on the decoded bits carry the same sample (R63). -/
theorem decode6_congr {b0 b1 b2 b4 c0 c1 c4 : Byte} (hweight : b0.toNat % 64 = c0.toNat % 64)
    (hposition : b1.toNat % 16 = c1.toNat % 16) (hpressed : b4.toNat = 0 ↔ c4.toNat = 0) :
    decode6 b0 b1 b2 b4 = decode6 c0 c1 b2 c4 := by
  have hw : weightField b0 = weightField c0 :=
    BitVec.eq_of_toNat_eq (by rw [weightField_toNat, weightField_toNat, hweight])
  have hpos : positionField b1 b2 = positionField c1 b2 :=
    BitVec.eq_of_toNat_eq (by rw [positionField_toNat, positionField_toNat, hposition])
  have hpr : pressedField b4 = pressedField c4 := by
    rw [Bool.eq_iff_iff, pressedField_eq_true_iff, pressedField_eq_true_iff, ne_eq, ne_eq, hpressed]
  rw [decode6, decode6, hw, hpos, hpr]

/-- PROCESS depends on its payload only through the Frame Decoder (R133). -/
theorem processPayload_congr {payload payload' : List Byte} (h : decodeFrame payload = decodeFrame payload')
    (s : State) : processPayload payload s = processPayload payload' s := by
  rw [processPayload, processPayload, h]

/-- Settles O26: the two frames decode to the same sample. -/
theorem ignoredBitsHaveNoEffect : Obligations.IgnoredBitsHaveNoEffect := by
  intro s b0 b1 b2 b3 b4 b5 c0 c1 c3 c4 c5 hweight hposition hpressed
  have hframe : decodeFrame [b0, b1, b2, b3, b4, b5] = decodeFrame [c0, c1, b2, c3, c4, c5] := by
    rw [decodeFrame_six, decodeFrame_six, decode6_congr hweight hposition hpressed]
  rw [exec_process, exec_process, processPayload_congr hframe]

/-! ## The frame of a SAMPLE (R75) -/

/-- The bytes of a SAMPLE's frame, as numbers (R75). -/
theorem sampleBytes_eq (w : Weight) (pos : Position) (p : Bool) :
    sampleBytes w pos p = [BitVec.ofNat 8 (128 + w.toNat), BitVec.ofNat 8 (pos.toNat / 256),
      BitVec.ofNat 8 (pos.toNat % 256), 0, if p then 1 else 0, 0] := by
  have hweight : 0x80#8 ||| w.setWidth 8 = BitVec.ofNat 8 (128 + w.toNat) := by
    revert w
    decide
  have hhigh : (pos >>> 8).setWidth 8 = BitVec.ofNat 8 (pos.toNat / 256) := by
    apply BitVec.eq_of_toNat_eq
    simp [Nat.shiftRight_eq_div_pow]
  have hlow : (pos &&& 0x0FF#12).setWidth 8 = BitVec.ofNat 8 (pos.toNat % 256) := by
    apply BitVec.eq_of_toNat_eq
    have hmask : pos.toNat &&& 255 = pos.toNat % 256 := Nat.and_two_pow_sub_one_eq_mod pos.toNat 8
    rw [BitVec.toNat_setWidth, BitVec.toNat_and, BitVec.toNat_ofNat, BitVec.toNat_ofNat]
    exact congrArg (· % 256) hmask
  rw [sampleBytes, hweight, hhigh, hlow]
  rfl

/-- The frame of a SAMPLE decodes to the sample's own fields (R75). -/
theorem decodeFrame_sampleBytes (w : Weight) (pos : Position) (p : Bool) :
    decodeFrame (sampleBytes w pos p) = .ok { position := pos, weight := w, pressed := p } := by
  have hposition : positionField ((pos >>> 8).setWidth 8) ((pos &&& 0x0FF#12).setWidth 8) = pos := by
    unfold positionField
    ext i hi
    interval_cases i <;> simp
  have hweight : weightField (0x80#8 ||| w.setWidth 8) = w := by
    revert w
    decide
  have hpressed : pressedField (if p then 0x01#8 else 0x00#8) = p := by
    cases p <;> rfl
  rw [sampleBytes, decodeFrame_six, decode6, hposition, hweight, hpressed]

/-- PROCESS of a frame that decodes takes its sample, if the device is Attached (R133). -/
theorem processPayload_of_decodeFrame {s : State} {d : Device} {payload : List Byte} {x : Sample}
    (hs : s.life = .attached d) (hx : decodeFrame payload = .ok x) :
    processPayload payload s = takeSample s d x := by
  rw [processPayload, whenAttached_of_attached hs, hx]

/-- Settles O14: the expansion's bytes are the stated ones, and they decode to the sample. -/
theorem sampleIsProcessOfItsFrame : Obligations.SampleIsProcessOfItsFrame := by
  intro s w pos p
  refine ⟨?_, fun d hs => ?_⟩
  · rw [exec_sample, exec_process, sampleBytes_eq]
  · rw [exec_sample, processPayload_of_decodeFrame hs (decodeFrame_sampleBytes w pos p)]
    rfl

/-! ## The event records (R70, R115) -/

/-- The fields of a motion record (R70, R115): kind, token, the zero bit, and the delta. -/
theorem eventWord_motion_fields (axis : AxisId) (delta : Int) :
    (eventWord (.motion axis delta)).extractLsb' 15 1 = 0#1 ∧
    (eventWord (.motion axis delta)).extractLsb' 14 1 = axisCode axis ∧
    (eventWord (.motion axis delta)).extractLsb' 13 1 = 0#1 ∧
    (eventWord (.motion axis delta)).extractLsb' 0 13 = BitVec.ofInt 13 delta := by
  rw [eventWord]
  refine ⟨?_, ?_, ?_, ?_⟩ <;> ext i hi <;> interval_cases i <;> simp

/-- A record as the number of its fields (R70). -/
theorem record_toNat (w : BitVec 16) :
    w.toNat = 32768 * (w.extractLsb' 15 1).toNat + 16384 * (w.extractLsb' 14 1).toNat +
      8192 * (w.extractLsb' 13 1).toNat + (w.extractLsb' 0 13).toNat := by
  have hlt := w.isLt
  simp only [BitVec.extractLsb'_toNat, Nat.shiftRight_eq_div_pow]
  omega

theorem axisCode_toNat (axis : AxisId) :
    (axisCode axis).toNat = if axis = .axisSensor then 1 else 0 := by
  cases axis <;> rfl

@[simp] theorem axisOfCode_axisCode (axis : AxisId) : axisOfCode (axisCode axis) = axis := by
  cases axis <;> rfl

/-- 13 bits of two's complement hold every delta of the block (R96). -/
theorem toInt_ofInt_of_deltaInRange {delta : Int} (h : DeltaInRange .sensor delta) :
    (BitVec.ofInt 13 delta).toInt = delta := by
  obtain ⟨hlow, hhigh⟩ := h
  exact BitVec.toInt_ofInt_eq_self (by decide) (by omega) (by omega)

/-- A motion record as a number (R70). -/
theorem eventWord_motion_toNat (axis : AxisId) (delta : Int) :
    (eventWord (.motion axis delta)).toNat =
      16384 * (if axis = .axisSensor then 1 else 0) + (delta % 8192).toNat := by
  obtain ⟨hkind, htoken, hzero, hdelta⟩ := eventWord_motion_fields axis delta
  rw [record_toNat, hkind, htoken, hzero, hdelta, axisCode_toNat, BitVec.toNat_ofInt]
  simp

/-- A motion record is read back (R70). -/
theorem eventOfWord_motion {axis : AxisId} {delta : Int} (h : DeltaInRange .sensor delta) :
    eventOfWord (eventWord (.motion axis delta)) = some (.motion axis delta) := by
  obtain ⟨hkind, htoken, hzero, hdelta⟩ := eventWord_motion_fields axis delta
  simp [eventOfWord, hkind, htoken, hzero, hdelta, toInt_ofInt_of_deltaInRange h]

/-- Settles O38, from the fields of the records; the four press records are evaluated. -/
theorem eventRecordsReadBack : Obligations.EventRecordsReadBack := by
  refine ⟨fun axis delta h => ⟨eventWord_motion_toNat axis delta, eventOfWord_motion h⟩, ?_⟩
  intro button pressed
  cases button <;> cases pressed <;> decide

/-! ## Legal results (R70, R96, R135, R150) -/

/-- Scaling moves a difference toward zero, and not past it (R93). -/
theorem scale_between (raw : Int) (k : Nat) : min raw 0 ≤ scale raw k ∧ scale raw k ≤ max raw 0 := by
  have hle : raw.natAbs >>> k ≤ raw.natAbs := Nat.shiftRight_le _ _
  unfold scale
  generalize raw.natAbs >>> k = n at hle
  rcases lt_trichotomy raw 0 with h | h | h
  · rw [Int.sign_eq_neg_one_of_neg h]
    omega
  · simp [h]
  · rw [Int.sign_eq_one_of_pos h]
    omega

/-- The circular difference lies in the half-open half domain (R113). -/
theorem diff_wheel_range (p r : Position) : -2048 < diff .wheel p r ∧ diff .wheel p r ≤ 2048 := by
  have hp : p.toNat < 4096 := p.isLt
  have hr : r.toNat < 4096 := r.isLt
  simp only [diff, diffWheel, naiveDiff, Config.halfDomain, Config.wheelDomain]
  split_ifs <;> omega

/-- A scaled difference is in its variant's range (R96). -/
theorem deltaInRange_scale_diff (v : Variant) (p r : Position) (k : Nat) :
    DeltaInRange v (scale (diff v p r) k) := by
  obtain ⟨hlow, hhigh⟩ := scale_between (diff v p r) k
  cases v with
  | wheel =>
    obtain ⟨hd, hd'⟩ := diff_wheel_range p r
    exact ⟨by omega, by omega⟩
  | sensor =>
    have hd := diff_sensor_natAbs_le p r
    exact ⟨by omega, by omega⟩

/-- The tracker's event is a motion of the variant, in its range (R92, R96). -/
theorem track_event_cases (c : DeviceConfig) (t : TrackerState) (x : Sample) :
    (track c t x).1 = none ∨
      ∃ delta, DeltaInRange c.variant delta ∧
        (track c t x).1 = some (.motion (axisOf c.variant) delta) := by
  cases h : (track c t x).1 with
  | none => exact .inl rfl
  | some e =>
    obtain ⟨_, _, _, rfl⟩ := track_event_iff.mp h
    exact .inr ⟨_, deltaInRange_scale_diff _ _ _ _, rfl⟩

/-- The press detector's event is a press of the variant (R120). -/
theorem pressEdge_event_cases (v : Variant) (latched pressed : Bool) :
    (pressEdge v latched pressed).1 = none ∨
      (pressEdge v latched pressed).1 = some (.press (buttonOf v) pressed) := by
  unfold pressEdge
  split_ifs
  · exact .inr rfl
  · exact .inl rfl

/-- The events of a sample are the tracker's, then the press detector's (R133, R135). -/
theorem processSample_events (d : Device) (x : Sample) :
    (processSample d x).1 = (track d.config d.tracker x).1.toList ++
      (pressEdge d.config.variant d.tracker.pressLatched x.pressed).1.toList := by
  rw [← track_pressLatched d.config d.tracker x]
  rfl

/-- The events of a sample have one of the four legal shapes (R102, R122, R135). -/
theorem processSample_legalEvents (d : Device) (x : Sample) :
    LegalEvents d.config.variant (processSample d x).1 := by
  rw [processSample_events]
  rcases track_event_cases d.config d.tracker x with hm | ⟨delta, hdelta, hm⟩ <;>
    rcases pressEdge_event_cases d.config.variant d.tracker.pressLatched x.pressed with hp | hp <;>
    rw [hm, hp]
  · exact .inl rfl
  · exact .inr (.inr (.inl ⟨_, rfl⟩))
  · exact .inr (.inl ⟨delta, hdelta, rfl⟩)
  · exact .inr (.inr (.inr ⟨delta, _, hdelta, rfl⟩))

/-- A legal result added to a legal observation leaves it legal. -/
theorem observationLegal_of_append {s t : State} {r : OpResult} (hs : ObservationLegal s)
    (ht : t.observed = s.observed ++ [r]) (hr : LegalResult r) : ObservationLegal t := by
  intro r' hmem
  rw [ht, List.mem_append, List.mem_singleton] at hmem
  rcases hmem with hmem | rfl
  · exact hs r' hmem
  · exact hr

/-- PROCESS records a legal result (R133, R150). -/
theorem processPayload_observationLegal {payload : List Byte} {s : State} (hs : ObservationLegal s) :
    ObservationLegal (processPayload payload s) := by
  rcases processPayload_cases payload s with ⟨_, h⟩ | ⟨_, _, _, h⟩ | ⟨d, x, _, _, h⟩ <;> rw [h]
  · exact observationLegal_of_append hs rfl trivial
  · exact observationLegal_of_append hs rfl rfl
  · exact observationLegal_of_append hs rfl ⟨_, processSample_legalEvents d x⟩

/-- Every instruction records a legal result. -/
theorem exec_observationLegal {i : Instr} {s t : State} (hs : ObservationLegal s)
    (h : exec i s = .next t) : ObservationLegal t := by
  have hempty : LegalResult (.done .ok []) := ⟨.wheel, .inl rfl⟩
  cases i with
  | attach v wt pct shift =>
    cases hl : s.life with
    | attached d =>
      cases (exec_attach_of_attached hl v wt pct shift).symm.trans h
      exact observationLegal_of_append hs rfl trivial
    | detached =>
      cases (exec_attach_of_detached hl v wt pct shift).symm.trans h
      exact observationLegal_of_append hs rfl hempty
  | detach =>
    cases hl : s.life with
    | attached d =>
      cases (exec_detach_of_attached hl).symm.trans h
      exact observationLegal_of_append hs rfl hempty
    | detached =>
      cases (exec_detach_of_detached hl).symm.trans h
      exact observationLegal_of_append hs rfl trivial
  | reserved rest =>
    cases (exec_reserved rest s).symm.trans h
    exact observationLegal_of_append hs rfl trivial
  | process payload =>
    cases (exec_process payload s).symm.trans h
    exact processPayload_observationLegal hs
  | frame48 b0 b1 b2 b3 b4 b5 =>
    cases (exec_frame48 b0 b1 b2 b3 b4 b5 s).symm.trans h
    exact processPayload_observationLegal hs
  | sample weight position pressed =>
    cases (exec_sample weight position pressed s).symm.trans h
    exact processPayload_observationLegal hs

/-- Settles O46: a step executes an instruction or refuses the word, and both record a legal result. -/
theorem stepKeepsObservationLegal : Obligations.StepKeepsObservationLegal := by
  intro s t hs h
  obtain ⟨p, rest, _, ⟨i, _, hexec⟩ | ⟨_, rfl⟩⟩ := step_next_cases h
  · exact exec_observationLegal (s := { s with pending := rest }) hs hexec
  · exact observationLegal_of_append hs rfl trivial

end Sys2Proof.Machine

/-! ## The Frame Decoder on a payload (R81, R82) -/

namespace Sys2Proof.Machine

/-- A payload that is not six bytes is malformed (R81). -/
theorem decodeFrame_of_length_ne_six {payload : List Byte} (h : payload.length ≠ 6) :
    decodeFrame payload = .error .malformedFrame := by
  cases hd : decodeFrame payload with
  | error e =>
    cases e
    rfl
  | ok x =>
    obtain ⟨b0, b1, b2, b3, b4, b5, rfl, _⟩ := decodeFrame_inversion hd
    exact absurd rfl h

/-- Six bytes decode, whatever they are (R81). -/
theorem exists_decodeFrame_ok_of_length_eq_six {payload : List Byte} (h : payload.length = 6) :
    ∃ x, decodeFrame payload = .ok x := by
  match payload, h with
  | [b0, b1, b2, b3, b4, b5], _ => exact ⟨_, decodeFrame_six b0 b1 b2 b3 b4 b5⟩

/-- Settles O24: a payload that decodes has six bytes, and six bytes decode. -/
theorem decoderFailsExactlyOnLength : Obligations.DecoderFailsExactlyOnLength :=
  fun _ => ⟨decodeFrame_of_length_ne_six, exists_decodeFrame_ok_of_length_eq_six⟩

/-- Settles O25: the fields of `decode6`, each as a number of its bytes. -/
theorem frameFieldsAreTheirBits : Obligations.FrameFieldsAreTheirBits := by
  intro b0 b1 b2 b3 b4 b5
  exact ⟨decode6 b0 b1 b2 b4, decodeFrame_six b0 b1 b2 b3 b4 b5, weightField_toNat b0,
    positionField_toNat b1 b2, pressedField_eq_true_iff b4⟩

/-- Settles O13: both spellings process the same payload, and six bytes decode to their fields. -/
theorem frame48IsProcessOfItsBytes : Obligations.Frame48IsProcessOfItsBytes := by
  intro s b0 b1 b2 b3 b4 b5
  refine ⟨?_, fun d hs => ?_⟩
  · rw [exec_frame48, exec_process]
  · rw [exec_frame48, processPayload_of_decodeFrame hs (decodeFrame_six b0 b1 b2 b3 b4 b5)]
    rfl

end Sys2Proof.Machine

/-! ## The four cases of the tracker, each selected by its condition (R90) -/

namespace Sys2Proof.Machine

/-- The press detector emits the events of R120. -/
@[simp] theorem pressEdge_fst_toList (v : Variant) (latched pressed : Bool) :
    (pressEdge v latched pressed).1.toList = pressEvents v latched pressed := by
  by_cases h : pressed = latched <;> simp [pressEdge, pressEvents, h]

/-- A press event is no motion event (R70). -/
theorem pressEvents_isMotion_eq_false {v : Variant} {latched pressed : Bool} :
    ∀ e ∈ pressEvents v latched pressed, isMotion e = false := by
  by_cases h : pressed = latched <;> simp [pressEvents, h, isMotion]

theorem track_of_begin {c : DeviceConfig} {t : TrackerState} {x : Sample} (ht : t.touching = false)
    (ha : above c x = true) : track c t x = touchBegin t x := by
  rw [track, ht, ha]

theorem track_of_continue {c : DeviceConfig} {t : TrackerState} {x : Sample} (ht : t.touching = true)
    (ha : above c x = true) : track c t x = touchContinue c t x := by
  rw [track, ht, ha]

theorem track_of_end {c : DeviceConfig} {t : TrackerState} {x : Sample} (ht : t.touching = true)
    (ha : above c x = false) : track c t x = touchEnd t := by
  rw [track, ht, ha]

/-- A continued touch that crosses moves (R92). -/
theorem touchContinue_of_crosses {c : DeviceConfig} {t : TrackerState} {x : Sample}
    (hcross : crosses c (rawDelta c t x) = true) :
    touchContinue c t x =
      (some (.motion (axisOf c.variant) (scale (rawDelta c t x) c.movementBitshift.toNat)),
        { t with referencePosition := x.position }) :=
  if_pos hcross

/-- A processed sample, from what the tracker makes of it: the press detector adds its events and writes
the latch (R120, R133). -/
theorem processSample_of_track {d : Device} {x : Sample} {motion : Option Event} {t : TrackerState}
    (h : track d.config d.tracker x = (motion, t)) :
    processSample d x =
      (motion.toList ++ pressEvents d.config.variant d.tracker.pressLatched x.pressed,
        { d with tracker := { t with pressLatched := x.pressed } }) := by
  have hlatch : t.pressLatched = d.tracker.pressLatched := by
    rw [← track_pressLatched d.config d.tracker x, h]
  simp [processSample, h, hlatch]

/-- A processed sample that crosses moves the reference, and its motion event comes first (R92, R135). -/
theorem processSample_of_crosses {d : Device} {x : Sample} (ht : d.tracker.touching = true)
    (ha : above d.config x = true) (hcross : crosses d.config (rawDelta d.config d.tracker x) = true) :
    processSample d x =
      (.motion (axisOf d.config.variant)
          (scale (rawDelta d.config d.tracker x) d.config.movementBitshift.toNat) ::
        pressEvents d.config.variant d.tracker.pressLatched x.pressed,
        { d with tracker :=
          { touching := true, referencePosition := x.position, pressLatched := x.pressed } }) := by
  rw [processSample_of_track ((track_of_continue ht ha).trans (touchContinue_of_crosses hcross)), ht]
  rfl

/-! ### The samples the tracker does not react to -/

/-- The device with another latch. -/
def Device.setLatch (d : Device) (latch : Bool) : Device :=
  { d with tracker := { d.tracker with pressLatched := latch } }

/-- The tracker does not react to the sample: a touch within the threshold while touching (R92), or no
touch while not touching (R95). -/
def Quiet (d : Device) (x : Sample) : Prop :=
  d.tracker.touching = above d.config x ∧
    (d.tracker.touching = true → crosses d.config (rawDelta d.config d.tracker x) = false)

/-- A touch within the threshold of the reference is quiet while touching (R92). -/
theorem quiet_of_within {d : Device} {x : Sample} (ht : d.tracker.touching = true)
    (hweight : d.config.weightThreshold.toNat ≤ x.weight.toNat)
    (hraw : (rawDelta d.config d.tracker x).natAbs ≤ d.config.positionChangeThreshold.toNat) :
    Quiet d x :=
  ⟨ht.trans (above_eq_true.mpr hweight).symm, fun _ => crosses_eq_false.mpr hraw⟩

/-- A light sample is quiet while not touching (R95). -/
theorem quiet_of_light {d : Device} {x : Sample} (ht : d.tracker.touching = false)
    (hweight : x.weight.toNat < d.config.weightThreshold.toNat) : Quiet d x :=
  ⟨ht.trans (above_eq_false.mpr hweight).symm, fun htouch => by simp [ht] at htouch⟩

/-- A quiet sample is seen by the press detector alone (R92, R95, R120). -/
theorem processSample_of_quiet {d : Device} {x : Sample} (h : Quiet d x) :
    processSample d x =
      (pressEvents d.config.variant d.tracker.pressLatched x.pressed, d.setLatch x.pressed) :=
  have ⟨htouch, hstay⟩ := h
  processSample_of_track (track_eq_self htouch hstay)

/-- A run of quiet samples changes nothing but the latch, and nothing moves (R95, R98). -/
theorem runSamples_of_quiet {d : Device} {xs : List Sample} (h : ∀ x ∈ xs, Quiet d x) :
    (∃ latch, (runSamples d xs).2 = d.setLatch latch) ∧
      ∀ events ∈ (runSamples d xs).1, ∀ e ∈ events, isMotion e = false := by
  induction xs generalizing d with
  | nil => exact ⟨⟨d.tracker.pressLatched, rfl⟩, by simp [runSamples]⟩
  | cons x xs ih =>
    obtain ⟨hx, hxs⟩ := List.forall_mem_cons.mp h
    -- `Quiet` does not read the latch, so `hxs` also speaks of the device after `x`.
    obtain ⟨⟨latch, hlatch⟩, hevents⟩ := ih (d := d.setLatch x.pressed) hxs
    rw [runSamples, processSample_of_quiet hx]
    exact ⟨⟨latch, hlatch⟩, List.forall_mem_cons.mpr ⟨pressEvents_isMotion_eq_false, hevents⟩⟩

/-- Settles O21: sub-threshold touches are quiet, and the device after them differs by the latch, which a
crossing does not read. -/
theorem subThresholdMotionAccumulates : Obligations.SubThresholdMotionAccumulates := by
  intro d xs x ht hxs
  have hquiet : ∀ y ∈ xs, Quiet d y := fun y hy =>
    have ⟨hweight, hwithin⟩ := hxs y hy
    quiet_of_within ht hweight hwithin
  obtain ⟨⟨latch, hlatch⟩, hevents⟩ := runSamples_of_quiet hquiet
  rw [hlatch]
  refine ⟨rfl, ht, rfl, hevents, fun hweight hcross => ?_⟩
  rw [processSample_of_crosses (d := d.setLatch latch) ht (above_eq_true.mpr hweight)
    (crosses_eq_true.mpr hcross)]
  rfl

/-- Settles O22: light samples are quiet while not touching. -/
theorem lightSamplesNeverTouch : Obligations.LightSamplesNeverTouch := by
  intro d xs ht hxs
  obtain ⟨⟨latch, hlatch⟩, hevents⟩ := runSamples_of_quiet fun x hx => quiet_of_light ht (hxs x hx)
  rw [hlatch]
  exact ⟨ht, rfl, hevents⟩

/-! ### PROCESS of one frame in each case -/

/-- PROCESS of one frame on an Attached device, from what its sample does to the device (R133). -/
theorem exec_process_of_processSample {s : State} {d e : Device} {b0 b1 b2 b4 : Byte} {events : List Event}
    (hs : s.life = .attached d) (h : processSample d (decode6 b0 b1 b2 b4) = (events, e)) (b3 b5 : Byte) :
    exec (.process [b0, b1, b2, b3, b4, b5]) s =
      .next { s with life := .attached e, observed := s.observed ++ [.done .ok events] } := by
  rw [exec_process_six hs, takeSample, h]
  rfl

/-- Settles O9: a touch begins, which writes the reference without reading it. -/
theorem touchBeginTakesReference : Obligations.TouchBeginTakesReference := by
  intro s d b0 b1 b2 b3 b4 b5 hs ht hweight
  exact exec_process_of_processSample hs
    (processSample_of_track (track_of_begin ht (above_eq_true.mpr hweight))) b3 b5

/-- Settles O10: a crossing moves the reference; a touch within the threshold is quiet. -/
theorem touchContinueMovesOrAccumulates : Obligations.TouchContinueMovesOrAccumulates := by
  intro s d b0 b1 b2 b3 b4 b5 hs ht hweight
  refine ⟨fun hcross => ?_, fun hwithin => ?_⟩
  · exact exec_process_of_processSample hs
      (processSample_of_crosses ht (above_eq_true.mpr hweight) (crosses_eq_true.mpr hcross)) b3 b5
  · rw [← ht]
    exact exec_process_of_processSample hs
      (processSample_of_quiet (quiet_of_within ht hweight hwithin)) b3 b5

/-- Settles O11: a touch ends, which writes `touching` alone. -/
theorem touchEndKeepsReference : Obligations.TouchEndKeepsReference := by
  intro s d b0 b1 b2 b3 b4 b5 hs ht hweight
  exact exec_process_of_processSample hs
    (processSample_of_track (track_of_end ht (above_eq_false.mpr hweight))) b3 b5

/-- Settles O12: a light sample is quiet while not touching. -/
theorem noTouchChangesOnlyLatch : Obligations.NoTouchChangesOnlyLatch := by
  intro s d b0 b1 b2 b3 b4 b5 hs ht hweight
  rw [← ht]
  exact exec_process_of_processSample hs (processSample_of_quiet (quiet_of_light ht hweight)) b3 b5

/-! ### The events of one sample -/

/-- Settles O16: the tracker and the press detector each emit at most one event, in this order. -/
theorem eventListShape : Obligations.EventListShape := processSample_legalEvents

/-- Settles O31: the crossing's first event is the scaled difference, which is 0 exactly below the power
of two. -/
theorem zeroDeltaEventsAreEmitted : Obligations.ZeroDeltaEventsAreEmitted := by
  intro d x ht hweight hcross
  rw [processSample_of_crosses ht (above_eq_true.mpr hweight) (crosses_eq_true.mpr hcross)]
  refine ⟨?_, rfl⟩
  rw [List.head?_cons, Option.some_inj, Event.motion.injEq, ← scale_eq_zero_iff, rawDelta]
  exact and_iff_right rfl

end Sys2Proof.Machine

/-! ## The sequential reading of the tracker's rules (R97) -/

namespace Sys2Proof.Machine

/-- Rule 4 has nothing to write (R95), so it changes no outcome, whether or not it applies. -/
theorem sequentialRule_noTouch (condition : TrackerState → Bool) (outcome : Option Event × TrackerState) :
    sequentialRule condition noTouch outcome = outcome := by
  unfold sequentialRule
  split <;> rfl

/-- Continuing from the sample's own position neither moves nor changes anything: what rule 2 makes of a
touch that rule 1 has just begun (R97). -/
theorem touchContinue_of_reference {c : DeviceConfig} {t : TrackerState} {x : Sample}
    (h : t.referencePosition = x.position) : touchContinue c t x = (none, t) := by
  simp [touchContinue, rawDelta, h]

/-- The continue case leaves the touch as it is (R92). -/
theorem touchContinue_touching (c : DeviceConfig) (t : TrackerState) (x : Sample) :
    (touchContinue c t x).2.touching = t.touching := by
  unfold touchContinue
  split <;> rfl

/-- Settles O20, by the case that is selected: the later rules that also apply, rule 2 after a touch begin and
rule 4 after a touch end, change nothing. -/
theorem sequentialReadingAgrees : Obligations.SequentialReadingAgrees := by
  intro c t x
  rw [trackSequential, sequentialRule_noTouch]
  rcases track_cases c t x with ⟨ht, ha, h⟩ | ⟨ht, ha, h⟩ | ⟨ht, ha, h⟩ | ⟨ht, ha, h⟩ <;> rw [h]
  · have hcontinue : touchContinue c (touchBegin t x).2 x = (none, (touchBegin t x).2) :=
      touchContinue_of_reference rfl
    simp [sequentialRule, ht, ha, hcontinue]
  · simp [sequentialRule, ht, ha, touchContinue_touching]
  · simp [sequentialRule, ht, ha, touchEnd]
  · simp [sequentialRule, ht, ha, noTouch]

end Sys2Proof.Machine

/-! ## The arithmetic: the scale (R93), and the ranges that 13 bits hold (R96) -/

namespace Sys2Proof.Machine

/-- The shift is a division (R93). -/
theorem scale_eq_sign_mul_div (raw : Int) (k : Nat) :
    scale raw k = raw.sign * ((raw.natAbs / 2 ^ k : Nat) : Int) := by
  rw [scale, Nat.shiftRight_eq_div_pow]

@[simp] theorem scale_zero_shift (raw : Int) : scale raw 0 = raw := Int.sign_mul_natAbs raw

/-- The scale is odd (R93). -/
@[simp] theorem scale_neg (raw : Int) (k : Nat) : scale (-raw) k = -scale raw k := by
  rw [scale, scale, Int.sign_neg, Int.natAbs_neg, neg_mul]

/-- A difference that is not negative is scaled by division alone (R93). -/
theorem scale_natCast (n k : Nat) : scale n k = ((n / 2 ^ k : Nat) : Int) := by
  rw [scale_eq_sign_mul_div, Int.natAbs_natCast]
  rcases Nat.eq_zero_or_pos n with rfl | hn
  · simp
  · rw [Int.sign_natCast_of_ne_zero hn.ne', one_mul]

/-- The scale is the quotient truncated toward zero, for either sign (R93). -/
theorem scale_eq_tdiv (raw : Int) (k : Nat) : scale raw k = raw.tdiv (2 ^ k) := by
  have hnat (n : Nat) : scale n k = (n : Int).tdiv (2 ^ k) := by
    rw [scale_natCast, Int.ofNat_tdiv, Nat.cast_pow, Nat.cast_ofNat]
  rcases Int.eq_nat_or_neg raw with ⟨n, rfl | rfl⟩
  · exact hnat n
  · rw [scale_neg, Int.neg_tdiv, hnat]

/-- Settles O29: from shift 12 on, every magnitude of the block is below the power of two. -/
theorem scaleTruncatesTowardZero : Obligations.ScaleTruncatesTowardZero := by
  intro raw k
  refine ⟨scale_eq_sign_mul_div raw k, scale_eq_tdiv raw k, scale_zero_shift raw, scale_neg raw k,
    fun hraw hk => scale_eq_zero_iff.mpr ?_⟩
  calc raw.natAbs < 2 ^ 12 := Nat.lt_succ_of_le hraw
    _ ≤ 2 ^ k := Nat.pow_le_pow_right (by decide) hk

/-- The widest range of deltas, as a bound on the magnitude (R96). -/
theorem deltaInRange_sensor_iff {z : Int} : DeltaInRange .sensor z ↔ z.natAbs ≤ 4095 := by
  simp only [DeltaInRange]
  omega

/-- Scaling never enlarges a magnitude (R96). -/
theorem natAbs_scale_le (raw : Int) (k : Nat) : (scale raw k).natAbs ≤ raw.natAbs := by
  obtain ⟨hlow, hhigh⟩ := scale_between raw k
  omega

/-- Settles O30: all three values are in the range of the sensor's deltas, which 13 bits hold. -/
theorem arithmeticNeverOverflows : Obligations.ArithmeticNeverOverflows := by
  intro v p r k
  have hnaive : DeltaInRange .sensor (naiveDiff p r) :=
    deltaInRange_sensor_iff.mpr (diff_sensor_natAbs_le p r)
  have hdiff : DeltaInRange .sensor (diff v p r) := deltaInRange_sensor_iff.mpr (diff_natAbs_le v p r)
  have hscale : DeltaInRange .sensor (scale (diff v p r) k) :=
    deltaInRange_sensor_iff.mpr ((natAbs_scale_le _ k).trans (diff_natAbs_le v p r))
  obtain ⟨hlow, hhigh⟩ := diff_wheel_range p r
  exact ⟨hnaive, hdiff, ⟨Int.add_one_le_of_lt hlow, hhigh⟩, natAbs_scale_le _ k,
    toInt_ofInt_of_deltaInRange hnaive, toInt_ofInt_of_deltaInRange hdiff,
    toInt_ofInt_of_deltaInRange hscale⟩

end Sys2Proof.Machine

/-! ## A well-presented run completes (R101, R142, R151) -/

namespace Sys2Proof.Machine

/-- No decoder rejects the length that its word announces (R66). -/
theorem decodeAttach_ne_payloadMismatch {p : Presentation} (h : p.payload = []) :
    decodeAttach p ≠ .error .payloadMismatch := by
  by_cases hreserved : p.word.extractLsb' 1 5 = 0#5 <;> simp [decodeAttach, h, hreserved]

theorem decodeProcess_ne_payloadMismatch {p : Presentation}
    (h : p.payload.length = (p.word.extractLsb' 0 8).toNat) :
    decodeProcess p ≠ .error .payloadMismatch := by
  by_cases hreserved : p.word.extractLsb' 8 22 = 0#22 <;> simp [decodeProcess, h, hreserved]

theorem decodeDetach_ne_payloadMismatch {p : Presentation} (h : p.payload = []) :
    decodeDetach p ≠ .error .payloadMismatch := by
  by_cases hreserved : p.word.extractLsb' 0 30 = 0#30 <;> simp [decodeDetach, h, hreserved]

/-- After a word that is not PROCESS's, a well-presented payload is empty (R66). -/
theorem WellPresented.payload_eq_nil {p : Presentation} (h : WellPresented p)
    (hop : opOf p.word ≠ 0b10#2) : p.payload = [] :=
  List.eq_nil_of_length_eq_zero (h.trans (Laws.Announced.announcedLength_of_op hop))

/-- A payload of the announced length is never rejected for its length (R66). -/
theorem WellPresented.decode_ne_payloadMismatch {p : Presentation} (h : WellPresented p) :
    decode p ≠ .error .payloadMismatch := by
  rcases opOf_cases p.word with hop | hop | hop | hop
  · simp [decode_of_op_reserved hop]
  · rw [decode_of_op_attach hop]
    exact decodeAttach_ne_payloadMismatch (h.payload_eq_nil (by simp [hop]))
  · rw [decode_of_op_process hop]
    exact decodeProcess_ne_payloadMismatch (h.trans (if_pos hop))
  · rw [decode_of_op_detach hop]
    exact decodeDetach_ne_payloadMismatch (h.payload_eq_nil (by simp [hop]))

/-- A word with a reserved bit set is refused on the state without it (R69, R155). -/
theorem step_of_reservedBits {s : State} {p : Presentation} {rest : List Presentation}
    (hp : s.pending = p :: rest) (hd : decode p = .error .reservedBits) :
    step s = .next (State.refuse { s with pending := rest } .reservedBits) := by
  simp only [step, fetch_cons hp, hd, rejectPresentation_reservedBits]

/-- A well-presented operation is always answered (R101, R151): carried out, or its word refused. -/
theorem exists_step_of_wellPresented {s : State} {p : Presentation} {rest : List Presentation}
    (hp : s.pending = p :: rest) (hwell : WellPresented p) : ∃ t, step s = .next t := by
  cases hd : decode p with
  | ok i =>
    obtain ⟨l, r, hexec⟩ := exec_eq_record i { s with pending := rest }
    exact ⟨_, (step_of_decode_ok hp hd).trans hexec⟩
  | error e =>
    cases e with
    | reservedBits => exact ⟨_, step_of_reservedBits hp hd⟩
    | payloadMismatch => exact absurd hd hwell.decode_ne_payloadMismatch

/-- A run whose first step answers goes on from there. -/
theorem run_succ_of_step (M : Host.Core) {s t : M.State} (h : M.step s = .next t) (k : Nat) :
    M.run (k + 1) s = M.run k t := by
  rw [Host.Core.run, h]

/-- A well-presented run takes every operation and adds one result for each (R142), by induction on what is
pending. -/
theorem run_of_wellPresented {s : State} (h : ∀ p ∈ s.pending, WellPresented p) :
    ∃ (t : State) (results : List OpResult), Host.Core.run core s.pending.length s = .next t ∧
      t.pending = [] ∧ t.observed = s.observed ++ results ∧ results.length = s.pending.length := by
  generalize hps : s.pending = ps at h
  induction ps generalizing s with
  | nil => exact ⟨s, [], rfl, hps, (List.append_nil _).symm, rfl⟩
  | cons p ps ih =>
    obtain ⟨hp, hrest⟩ := List.forall_mem_cons.mp h
    obtain ⟨u, hstep⟩ := exists_step_of_wellPresented hps hp
    obtain ⟨_, r, hpending, hobserved⟩ := eachStepGivesOneResult s u hstep
    obtain ⟨_, hu⟩ := List.cons.inj (hpending.symm.trans hps)
    obtain ⟨t, results, hrun, hdone, hresults, hlen⟩ := ih hu hrest
    refine ⟨t, r :: results, (run_succ_of_step core hstep _).trans hrun, hdone, ?_, congrArg (· + 1) hlen⟩
    rw [hresults, hobserved, List.append_assoc, List.singleton_append]

/-- Settles O47: the run's results are what is observed after the earlier observation. -/
theorem wellPresentedRunCompletes : Obligations.WellPresentedRunCompletes := by
  intro s h
  obtain ⟨t, results, hrun, hdone, hobserved, hlen⟩ := run_of_wellPresented h
  refine ⟨t, hrun, hdone, ?_, hobserved ▸ List.prefix_append _ _⟩
  rw [hobserved, List.length_append, hlen]

end Sys2Proof.Machine

/-! ## The Variant Policy: the two differences (R111 to R113), and the fixed configuration (R116) -/

namespace Sys2Proof.Machine

/-- The three branches of the circular difference: too far forward, too far back, or no correction (R112). -/
theorem diff_wheel_cases (p r : Position) :
    (2048 < naiveDiff p r ∧ diff .wheel p r = naiveDiff p r - 4096) ∨
    (naiveDiff p r ≤ -2048 ∧ diff .wheel p r = naiveDiff p r + 4096) ∨
    (-2048 < naiveDiff p r ∧ naiveDiff p r ≤ 2048 ∧ diff .wheel p r = naiveDiff p r) := by
  simp only [diff, diffWheel, Config.halfDomain, Config.wheelDomain]
  split_ifs with hforward hback
  · exact .inl ⟨hforward, rfl⟩
  · exact .inr (.inl ⟨hback, rfl⟩)
  · exact .inr (.inr ⟨not_le.mp hback, not_lt.mp hforward, rfl⟩)

theorem naiveDiff_swap (p r : Position) : naiveDiff r p = -naiveDiff p r :=
  (Int.neg_sub _ _).symm

/-- The correction is a whole turn, so the circular difference leads from the reference to the position
(R113). -/
theorem add_diff_wheel_emod (p r : Position) :
    ((r.toNat : Int) + diff .wheel p r) % 4096 = (p.toNat : Int) := by
  have hp : p.toNat < 4096 := p.isLt
  have hnaive : naiveDiff p r = (p.toNat : Int) - (r.toNat : Int) := rfl
  rcases diff_wheel_cases p r with ⟨_, h⟩ | ⟨_, h⟩ | ⟨_, _, h⟩ <;> rw [h] <;> omega

/-- The half-open half domain holds each residue modulo 4096 once (R113). -/
theorem eq_of_add_emod_eq {r y z : Int} (hy : -2048 < y ∧ y ≤ 2048) (hz : -2048 < z ∧ z ≤ 2048)
    (h : (r + y) % 4096 = (r + z) % 4096) : y = z := by
  omega

/-- The circular difference is as long as the shorter of the two arcs (R113). -/
theorem diff_wheel_natAbs (p r : Position) :
    (diff .wheel p r).natAbs = min (naiveDiff p r).natAbs (4096 - (naiveDiff p r).natAbs) := by
  have hbound : (naiveDiff p r).natAbs ≤ 4095 := diff_sensor_natAbs_le p r
  rcases diff_wheel_cases p r with ⟨_, h⟩ | ⟨_, h⟩ | ⟨_, _, h⟩ <;> rw [h] <;> omega

/-- Between opposite positions the circular difference is positive (R113). -/
theorem diff_wheel_of_tie {p r : Position} (htie : (naiveDiff p r).natAbs = 2048) :
    diff .wheel p r = 2048 := by
  rcases diff_wheel_cases p r with ⟨_, h⟩ | ⟨_, h⟩ | ⟨_, _, h⟩ <;> omega

/-- Between positions that are not opposite, the circular difference changes sign with their exchange (R113):
the negated difference of the exchanged positions is in the half-open range too, and leads to the same position.
-/
theorem diff_wheel_swap {p r : Position} (htie : (naiveDiff p r).natAbs ≠ 2048) :
    diff .wheel p r = -diff .wheel r p := by
  have hne : (diff .wheel r p).natAbs ≠ 2048 := by
    rw [diff_wheel_natAbs, naiveDiff_swap, Int.natAbs_neg]
    omega
  obtain ⟨hlow, hhigh⟩ := diff_wheel_range r p
  refine eq_of_add_emod_eq (r := r.toNat) (diff_wheel_range p r) ⟨by omega, by omega⟩ ?_
  have hforth := add_diff_wheel_emod p r
  have hback := add_diff_wheel_emod r p
  omega

/-- Settles O28: uniqueness is that of a residue in the half-open half domain; the other laws follow the three
branches of the difference. -/
theorem wheelDifferenceLaws : Obligations.WheelDifferenceLaws := by
  intro p r
  refine ⟨diff_wheel_range p r, add_diff_wheel_emod p r, fun z hlow hhigh hz => ?_,
    diff_wheel_natAbs p r, fun htie => ⟨diff_wheel_of_tie htie, diff_wheel_of_tie ?_⟩, diff_wheel_swap⟩
  · exact eq_of_add_emod_eq ⟨hlow, hhigh⟩ (diff_wheel_range p r) (hz.trans (add_diff_wheel_emod p r).symm)
  · rw [naiveDiff_swap, Int.natAbs_neg]
    exact htie

/-- Settles O27: the linear difference is the subtraction itself. -/
theorem sensorDifferenceIsLinear : Obligations.SensorDifferenceIsLinear :=
  fun p r => ⟨rfl, deltaInRange_sensor_iff.mpr (diff_sensor_natAbs_le p r)⟩

/-! ### The configuration of a device that stays Attached -/

/-- An operation that leaves the lifecycle alone leaves the configuration alone. -/
theorem config_eq_of_life_eq {s t : State} {d e : Device} (hlife : t.life = s.life)
    (hs : s.life = .attached d) (ht : t.life = .attached e) : e.config = d.config := by
  cases ht.symm.trans (hlife.trans hs)
  rfl

/-- PROCESS never writes the configuration, whatever its payload (R133). -/
theorem processPayload_config {payload : List Byte} {s : State} {d e : Device} (hs : s.life = .attached d)
    (ht : (processPayload payload s).life = .attached e) : e.config = d.config := by
  rcases processPayload_cases payload s with ⟨_, h⟩ | ⟨_, _, _, h⟩ | ⟨d', x, hs', _, h⟩ <;> rw [h] at ht
  · exact config_eq_of_life_eq (s.refuse_life _) hs ht
  · exact config_eq_of_life_eq s.reportMalformed_life hs ht
  · cases hs.symm.trans hs'
    cases ht
    exact processSample_config d x

/-- No instruction changes the configuration of a device that it leaves Attached: ATTACH is refused (R131),
DETACH detaches it (R140), and no other instruction writes it. -/
theorem exec_config {i : Instr} {s t : State} {d e : Device} (h : exec i s = .next t)
    (hs : s.life = .attached d) (ht : t.life = .attached e) : e.config = d.config := by
  cases i with
  | attach v wt pct shift =>
    cases (exec_attach_of_attached hs v wt pct shift).symm.trans h
    exact config_eq_of_life_eq (s.refuse_life _) hs ht
  | detach => cases (exec_detach_life h).symm.trans ht
  | reserved rest =>
    cases (exec_reserved rest s).symm.trans h
    exact config_eq_of_life_eq (s.refuse_life _) hs ht
  | process payload =>
    cases (exec_process payload s).symm.trans h
    exact processPayload_config hs ht
  | frame48 b0 b1 b2 b3 b4 b5 =>
    cases (exec_frame48 b0 b1 b2 b3 b4 b5 s).symm.trans h
    exact processPayload_config hs ht
  | sample weight position pressed =>
    cases (exec_sample weight position pressed s).symm.trans h
    exact processPayload_config hs ht

/-- Settles O43: a step executes an instruction or refuses the word, and neither writes the configuration of a
device that stays Attached. -/
theorem configurationIsFixedWhileAttached : Obligations.ConfigurationIsFixedWhileAttached := by
  intro s t d e hs hstep ht
  obtain ⟨p, rest, _, ⟨i, _, hexec⟩ | ⟨_, rfl⟩⟩ := step_next_cases hstep
  · exact exec_config (s := { s with pending := rest }) hexec hs ht
  · exact config_eq_of_life_eq (State.refuse_life { s with pending := rest } .reservedBits) hs ht

end Sys2Proof.Machine

/-! ## The press edge: one sample (R120), and a run (R121) -/

namespace Sys2Proof.Machine

/-- The tracker emits motion events only (R92). -/
theorem track_fst_isMotion {c : DeviceConfig} {t : TrackerState} {x : Sample} :
    ∀ e ∈ (track c t x).1.toList, isMotion e = true := by
  intro e he
  obtain ⟨_, _, _, rfl⟩ := track_event_iff.mp (Option.mem_toList.mp he)
  rfl

/-- The latch after a sample is its flag (R120). -/
@[simp] theorem processSample_pressLatched (d : Device) (x : Sample) :
    (processSample d x).2.tracker.pressLatched = x.pressed :=
  pressEdge_snd _ _ _

/-- The events of a sample that are not motion are the press detector's (R120, R135). -/
theorem processSample_filter_not_isMotion (d : Device) (x : Sample) :
    (processSample d x).1.filter (fun e => !isMotion e) =
      pressEvents d.config.variant d.tracker.pressLatched x.pressed := by
  have hmotion : (track d.config d.tracker x).1.toList.filter (fun e => !isMotion e) = [] :=
    List.filter_eq_nil_iff.mpr fun e he => by simp [track_fst_isMotion e he]
  rw [processSample_events, pressEdge_fst_toList, List.filter_append, hmotion, List.nil_append]
  exact List.filter_eq_self.mpr fun e he => by simp [pressEvents_isMotion_eq_false e he]

/-- Settles O17: the tracker's events are filtered out, and the tracker does not write the latch. -/
theorem pressEdgeIgnoresTouch : Obligations.PressEdgeIgnoresTouch :=
  fun d x => ⟨processSample_filter_not_isMotion d x, processSample_pressLatched d x⟩

/-- The press values of a sample: its flag if it differs from the latch (R120). -/
def edgeValues (latched pressed : Bool) : List Bool :=
  if pressed = latched then [] else [pressed]

/-- Motion events have no press value (R70). -/
theorem filterMap_pressValue?_filter (events : List Event) :
    (events.filter (fun e => !isMotion e)).filterMap pressValue? = events.filterMap pressValue? := by
  rw [List.filterMap_filter]
  congr 1
  funext e
  cases e <;> rfl

theorem pressEvents_pressValues (v : Variant) (latched pressed : Bool) :
    (pressEvents v latched pressed).filterMap pressValue? = edgeValues latched pressed := by
  unfold pressEvents edgeValues
  split <;> rfl

/-- The press values of a processed sample compare its flag with the latch (R120). -/
theorem processSample_pressValues (d : Device) (x : Sample) :
    (processSample d x).1.filterMap pressValue? = edgeValues d.tracker.pressLatched x.pressed := by
  rw [← filterMap_pressValue?_filter, processSample_filter_not_isMotion, pressEvents_pressValues]

/-- The press values of a run, sample by sample: each flag is compared with the one before it, and the first
with the latch (R121). -/
theorem runSamples_pressValues (d : Device) (xs : List Sample) :
    (runSamples d xs).1.map (·.filterMap pressValue?) =
      List.zipWith edgeValues (d.tracker.pressLatched :: xs.map Sample.pressed)
        (xs.map Sample.pressed) := by
  induction xs generalizing d with
  | nil => rfl
  | cons x xs ih => simp [runSamples, processSample_pressValues, ih]

/-- A run has one event list per sample (R48). -/
theorem runSamples_length (d : Device) (xs : List Sample) :
    (runSamples d xs).1.length = xs.length := by
  simpa using congrArg List.length (runSamples_pressValues d xs)

/-- The press values of sample `i` compare its flag with the one before it, and the first with the latch
(R121). -/
theorem runSamples_getD_pressValues {d : Device} {xs : List Sample} {i : Nat} {x : Sample}
    (hx : xs[i]? = some x) :
    ((runSamples d xs).1.getD i []).filterMap pressValue? =
      edgeValues ((d.tracker.pressLatched :: xs.map Sample.pressed).getD i false) x.pressed := by
  obtain ⟨hi, rfl⟩ := List.getElem?_eq_some_iff.mp hx
  rw [← List.getD_map (f := List.filterMap pressValue?), runSamples_pressValues,
    List.getD_eq_getElem _ _ (by simpa using hi), List.getD_eq_getElem _ _ (by simpa using hi.le),
    List.getElem_zipWith, List.getElem_map]

/-- The press values of a run alternate, starting with the opposite of the latch (R121). -/
theorem runSamples_pressValues_alternate (d : Device) (xs : List Sample) (i : Nat)
    (hi : i < ((runSamples d xs).1.flatten.filterMap pressValue?).length) :
    ((runSamples d xs).1.flatten.filterMap pressValue?)[i]? =
      some (decide (i % 2 = 0) != d.tracker.pressLatched) := by
  induction xs generalizing d i with
  | nil => simp [runSamples] at hi
  | cons x xs ih =>
    have ih := ih (processSample d x).2
    rw [processSample_pressLatched] at ih
    simp only [runSamples, List.flatten_cons, List.filterMap_append, processSample_pressValues] at hi ⊢
    by_cases hedge : x.pressed = d.tracker.pressLatched
    · simp only [edgeValues, if_pos hedge, List.nil_append] at hi ⊢
      rw [← hedge]
      exact ih i hi
    · simp only [edgeValues, if_neg hedge, List.singleton_append] at hi ⊢
      have hflip : x.pressed = !d.tracker.pressLatched := Bool.eq_not.mpr hedge
      cases i with
      | zero => simp [hflip]
      | succ i =>
        rw [List.getElem?_cons_succ, ih i (Nat.lt_of_succ_lt_succ hi), hflip]
        rcases Nat.mod_two_eq_zero_or_one i with hpar | hpar <;> simp [Nat.succ_mod_two_eq_zero_iff, hpar]

/-- The latch after a run is the last flag (R121). -/
theorem runSamples_pressLatched (d : Device) (xs : List Sample) :
    (runSamples d xs).2.tracker.pressLatched =
      (xs.getLast?.map Sample.pressed).getD d.tracker.pressLatched := by
  induction xs generalizing d with
  | nil => rfl
  | cons x xs ih =>
    rw [runSamples, ih, processSample_pressLatched, List.getLast?_cons]
    cases xs.getLast? <;> rfl

/-- Settles O23: a run's press values compare neighbouring flags, so they alternate, and each sample leaves
its flag in the latch. -/
theorem pressEdgeLaws : Obligations.PressEdgeLaws := by
  intro d xs hlatch
  refine ⟨runSamples_length d xs, fun i x hx => ?_, fun i hi => ?_, fun x hx => ?_⟩
  · rw [runSamples_getD_pressValues hx, hlatch]
    cases i <;> simp [edgeValues]
  · rw [runSamples_pressValues_alternate d xs i hi, hlatch, Bool.bne_false]
  · rw [runSamples_pressLatched, hx]
    rfl

end Sys2Proof.Machine

/-! ## PROCESS writes the TrackerState alone, and its two parts commute (R116, R133) -/

namespace Sys2Proof.Machine

theorem track_of_noTouch {c : DeviceConfig} {t : TrackerState} {x : Sample} (ht : t.touching = false)
    (ha : above c x = false) : track c t x = noTouch t := by
  rw [track, ht, ha]

/-- A continued touch within the threshold changes nothing (R92). -/
theorem touchContinue_of_not_crosses {c : DeviceConfig} {t : TrackerState} {x : Sample}
    (hcross : crosses c (rawDelta c t x) = false) : touchContinue c t x = (none, t) :=
  if_neg (Bool.eq_false_iff.mp hcross)

/-- The tracker neither reads nor writes the latch: another latch passes through it (R133). -/
theorem track_pressLatched_update (c : DeviceConfig) (t : TrackerState) (latch : Bool) (x : Sample) :
    track c { t with pressLatched := latch } x =
      ((track c t x).1, { (track c t x).2 with pressLatched := latch }) := by
  rcases track_cases c t x with ⟨ht, ha, h⟩ | ⟨ht, ha, h⟩ | ⟨ht, ha, h⟩ | ⟨ht, ha, h⟩ <;> rw [h]
  · exact track_of_begin ht ha
  · rw [track_of_continue (t := { t with pressLatched := latch }) ht ha]
    cases hcross : crosses c (rawDelta c t x) with
    | true =>
      rw [touchContinue_of_crosses hcross]
      exact touchContinue_of_crosses hcross
    | false =>
      rw [touchContinue_of_not_crosses hcross]
      exact touchContinue_of_not_crosses hcross
  · exact track_of_end ht ha
  · exact track_of_noTouch ht ha

/-- Settles O19: the tracker leaves the latch for the edge detector to read, and passes on the one that the
edge detector has written. -/
theorem pressEdgeAndTrackerCommute : Obligations.PressEdgeAndTrackerCommute := by
  intro d x
  simp only [processPressFirst, processSample, track_pressLatched_update, track_pressLatched]

/-- PROCESS of an Attached device, whatever its payload: the TrackerState may change, and one result is
added (R133, R150). -/
theorem execProcess_of_attached {s : State} {d : Device} (hs : s.life = .attached d)
    (payload : List Byte) :
    ∃ tracker r, execProcess payload s = .next { s with
      life := .attached { d with tracker := tracker }, observed := s.observed ++ [r] } := by
  rcases processPayload_cases payload s with ⟨hs', _⟩ | ⟨_, _, _, h⟩ | ⟨d', x, hs', _, h⟩
  · cases hs.symm.trans hs'
  · refine ⟨d.tracker, .done .malformedFrame [], ?_⟩
    rw [execProcess, h, ← hs]
    rfl
  · cases hs.symm.trans hs'
    exact ⟨(processSample d x).2.tracker, .done .ok (processSample d x).1, congrArg _ h⟩

/-- Settles O15: all three spellings run as the PROCESS of a payload. -/
theorem processKeepsConfiguration : Obligations.ProcessKeepsConfiguration :=
  fun _ _ hs => ⟨execProcess_of_attached hs,
    fun b0 b1 b2 b3 b4 b5 => execProcess_of_attached hs [b0, b1, b2, b3, b4, b5],
    fun w pos p => execProcess_of_attached hs (sampleBytes w pos p)⟩

end Sys2Proof.Machine

/-! ## Where a step stops, and the lifecycle's ends (R131, R140, R142, R156) -/

namespace Sys2Proof.Machine

/-- With nothing presented a step stops (assumption log 5). -/
theorem step_of_pending_nil {s : State} (hp : s.pending = []) : step s = .fault .noOperation := by
  rw [step, fetch_nil hp]

/-- A payload of another length than announced stops the step (assumption log 6). -/
theorem step_of_payloadMismatch {s : State} {p : Presentation} {rest : List Presentation}
    (hp : s.pending = p :: rest) (hd : decode p = .error .payloadMismatch) :
    step s = .refused .payloadMismatch := by
  simp only [step, fetch_cons hp, hd, rejectPresentation_payloadMismatch]

/-- What a step on a presented operation can do: answer, or stop on a payload of another length than
announced. -/
theorem step_of_pending_cons {s : State} {p : Presentation} {rest : List Presentation}
    (hp : s.pending = p :: rest) :
    (∃ t, step s = .next t) ∨ (¬WellPresented p ∧ step s = .refused .payloadMismatch) := by
  cases hd : decode p with
  | ok i =>
    obtain ⟨l, r, hexec⟩ := exec_eq_record i { s with pending := rest }
    exact .inl ⟨_, (step_of_decode_ok hp hd).trans hexec⟩
  | error e =>
    cases e with
    | reservedBits => exact .inl ⟨_, step_of_reservedBits hp hd⟩
    | payloadMismatch =>
      exact .inr ⟨fun hwell => hwell.decode_ne_payloadMismatch hd, step_of_payloadMismatch hp hd⟩

/-- Settles O48: with nothing presented a step faults; otherwise it answers, or refuses a payload that is not
the announced one. -/
theorem stepStopsOnlyWithoutOperation : Obligations.StepStopsOnlyWithoutOperation := by
  intro s
  cases hp : s.pending with
  | nil =>
    have hstep := step_of_pending_nil hp
    simp [hstep, eq_comm]
  | cons p rest =>
    rcases step_of_pending_cons hp with ⟨t, hstep⟩ | ⟨hwell, hstep⟩
    · simp [hstep]
    · simp [hstep, hwell, eq_comm]

/-- Settles O2: the run begins with the two empty lists. -/
theorem powerOnMeetsObservationInvariant : Obligations.PowerOnMeetsObservationInvariant :=
  ⟨rfl, rfl, rfl, List.forall_mem_nil _⟩

/-- Settles O4, by the refusal of ATTACH. -/
theorem reattachIsRefused : Obligations.ReattachIsRefused :=
  fun v wt pct shift _ _ hs => exec_attach_of_attached hs v wt pct shift

/-- Settles O5, by the two lives of DETACH. -/
theorem detachEndsDeviceOrIsRefused : Obligations.DetachEndsDeviceOrIsRefused :=
  fun _ => ⟨fun _ => exec_detach_of_attached, exec_detach_of_detached⟩

end Sys2Proof.Machine

/-! ## Exceptional operations: the refusals, the malformed frame and the order of the checks (R150, R152,
R155, R156) -/

namespace Sys2Proof.Machine

/-! ### PROCESS without effect -/

/-- PROCESS of a Detached device is refused before its payload is looked at (R152, R156). -/
theorem processPayload_of_detached {s : State} (hs : s.life = .detached) (payload : List Byte) :
    processPayload payload s = s.refuse .notAttached :=
  whenAttached_of_detached hs _

/-- PROCESS of a frame that does not decode leaves the device alone (R150). -/
theorem processPayload_of_malformed {s : State} {d : Device} {payload : List Byte}
    (hs : s.life = .attached d) (hx : decodeFrame payload = .error .malformedFrame) :
    processPayload payload s = s.reportMalformed := by
  rw [processPayload, whenAttached_of_attached hs, hx]

/-- Settles O7: all three spellings of PROCESS process a payload, which needs an Attached device, and so does
DETACH. -/
theorem detachedOperationsAreRefused : Obligations.DetachedOperationsAreRefused :=
  fun _ hs =>
    have hprocess payload := congrArg Host.Outcome.next (processPayload_of_detached hs payload)
    ⟨hprocess, fun b0 b1 b2 b3 b4 b5 => hprocess [b0, b1, b2, b3, b4, b5],
      fun w pos p => hprocess (sampleBytes w pos p), exec_detach_of_detached hs⟩

/-- Settles O8: a payload that is not six bytes does not decode. -/
theorem malformedFrameLeavesDevice : Obligations.MalformedFrameLeavesDevice :=
  fun _ _ _ hs hlen =>
    congrArg Host.Outcome.next (processPayload_of_malformed hs (decodeFrame_of_length_ne_six hlen))

/-! ### A refusal has no effect, and the mark stays (R155) -/

/-- Whatever its payload, PROCESS is refused without effect, or returns a status. -/
theorem execProcess_refuse_or_complete (payload : List Byte) (s : State) :
    (∃ reason, execProcess payload s = .next (s.refuse reason)) ∨
      ∃ l st es, execProcess payload s = .next ((s.setLife l).complete st es) := by
  rcases processPayload_cases payload s with ⟨_, h⟩ | ⟨_, _, _, h⟩ | ⟨_, _, _, _, h⟩
  · exact .inl ⟨_, congrArg _ h⟩
  · exact .inr ⟨s.life, _, _, congrArg _ h⟩
  · exact .inr ⟨_, _, _, congrArg _ h⟩

/-- An instruction is refused without effect, or returns a status. -/
theorem exec_refuse_or_complete (i : Instr) (s : State) :
    (∃ reason, exec i s = .next (s.refuse reason)) ∨
      ∃ l st es, exec i s = .next ((s.setLife l).complete st es) := by
  cases i with
  | attach v wt pct shift =>
    cases hs : s.life with
    | attached d => exact .inl ⟨_, exec_attach_of_attached hs v wt pct shift⟩
    | detached => exact .inr ⟨_, _, _, exec_attach_of_detached hs v wt pct shift⟩
  | detach =>
    cases hs : s.life with
    | attached d => exact .inr ⟨_, _, _, exec_detach_of_attached hs⟩
    | detached => exact .inl ⟨_, exec_detach_of_detached hs⟩
  | reserved rest => exact .inl ⟨_, exec_reserved rest s⟩
  | process payload => exact execProcess_refuse_or_complete payload s
  | frame48 b0 b1 b2 b3 b4 b5 => exact execProcess_refuse_or_complete _ s
  | sample weight position pressed => exact execProcess_refuse_or_complete _ s

/-- A step refuses the operation it takes, with no effect, or the operation returns a status. -/
theorem step_refuse_or_complete {s t : State} (h : step s = .next t) :
    ∃ rest, (∃ reason, t = State.refuse { s with pending := rest } reason) ∨
      ∃ l st es, t = (State.setLife { s with pending := rest } l).complete st es := by
  obtain ⟨_, rest, _, ⟨i, _, hexec⟩ | ⟨_, rfl⟩⟩ := step_next_cases h
  · rcases exec_refuse_or_complete i { s with pending := rest } with ⟨_, h'⟩ | ⟨_, _, _, h'⟩
    · exact ⟨rest, .inl ⟨_, Host.Outcome.next.inj (hexec.symm.trans h')⟩⟩
    · exact ⟨rest, .inr ⟨_, _, _, Host.Outcome.next.inj (hexec.symm.trans h')⟩⟩
  · exact ⟨rest, .inl ⟨_, rfl⟩⟩

/-- Settles O45: a refused operation only adds its reason, and one that returns a status adds none. -/
theorem refusalHasNoEffectAndMarkStays : Obligations.RefusalHasNoEffectAndMarkStays := by
  intro s t h
  obtain ⟨rest, ⟨reason, rfl⟩ | ⟨l, st, es, rfl⟩⟩ := step_refuse_or_complete h
  · have hmark := State.refusals_refuse { s with pending := rest } reason
    refine ⟨fun reason' hobserved => ?_, fun _ hclear => ?_⟩
    · cases List.append_cancel_left hobserved
      exact ⟨rfl, hmark⟩
    · exact List.append_ne_nil_of_right_ne_nil _ (List.cons_ne_nil _ _) (hmark.symm.trans hclear)
  · have hmark := State.refusals_complete (State.setLife { s with pending := rest } l) st es
    refine ⟨fun reason' hobserved => ?_, fun hset hclear => hset (hmark.symm.trans hclear)⟩
    cases List.append_cancel_left hobserved

/-! ### The order of the checks (R152) -/

/-- Without a reserved bit a CMD-A word presented alone is an ATTACH (R67). -/
theorem decode_attach_of_wellPresented {p : Presentation} (hwell : WellPresented p)
    (hop : opOf p.word = 0b01#2) (hbits : ¬ReservedBitSet p.word) :
    ∃ v wt pct shift, decode p = .ok (.attach v wt pct shift) := by
  have hmask : p.word &&& 0x0000003E#32 = 0#32 := by_contra fun h => hbits (.inl ⟨hop, h⟩)
  have hfield : p.word.extractLsb' 1 5 = 0#5 := (and_fieldMask_eq_zero_iff p.word (by decide)).mp hmask
  exact ⟨_, _, _, _, (decode_of_op_attach hop).trans
    (decodeAttach_eq_ok_iff.mpr ⟨hfield, hwell.payload_eq_nil (by simp [hop]), rfl⟩)⟩

/-- Without a reserved bit a CMD-P word is the PROCESS of the announced payload (R66). -/
theorem decode_process_of_wellPresented {p : Presentation} (hwell : WellPresented p)
    (hop : opOf p.word = 0b10#2) (hbits : ¬ReservedBitSet p.word) :
    decode p = .ok (.process p.payload) := by
  have hmask : p.word &&& 0x3FFFFF00#32 = 0#32 := by_contra fun h => hbits (.inr (.inl ⟨hop, h⟩))
  have hfield : p.word.extractLsb' 8 22 = 0#22 := (and_fieldMask_eq_zero_iff p.word (by decide)).mp hmask
  exact (decode_of_op_process hop).trans
    (decodeProcess_eq_ok_iff.mpr ⟨hfield, hwell.trans (if_pos hop), rfl⟩)

/-- Without a reserved bit a CMD-D word presented alone is DETACH (R68). -/
theorem decode_detach_of_wellPresented {p : Presentation} (hwell : WellPresented p)
    (hop : opOf p.word = 0b11#2) (hbits : ¬ReservedBitSet p.word) : decode p = .ok .detach := by
  have hmask : p.word &&& 0x3FFFFFFF#32 = 0#32 := by_contra fun h => hbits (.inr (.inr ⟨hop, h⟩))
  have hfield : p.word.extractLsb' 0 30 = 0#30 := (and_fieldMask_eq_zero_iff p.word (by decide)).mp hmask
  exact (decode_of_op_detach hop).trans
    (decodeDetach_eq_ok_iff.mpr ⟨hfield, hwell.payload_eq_nil (by simp [hop]), rfl⟩)

/-- A device that is not Detached is Attached (R21). -/
theorem Lifecycle.exists_attached_of_ne_detached {l : Lifecycle} (h : l ≠ .detached) :
    ∃ d, l = .attached d := by
  cases l with
  | detached => exact absurd rfl h
  | attached d => exact ⟨d, rfl⟩

/-- The result of a step is the one that any computation of the step adds. -/
theorem result_eq_of_step {s t u : State} {r r' : OpResult} (ht : step s = .next t)
    (hr : t.observed = s.observed ++ [r]) (hu : step s = .next u)
    (hr' : u.observed = s.observed ++ [r']) : r = r' := by
  cases ht.symm.trans hu
  exact List.singleton_inj.mp (List.append_cancel_left (hr.symm.trans hr'))

/-- Settles O41: the step answers with one result, and under each clause's premises the word decodes to an
instruction whose answer on this life and payload is known. -/
theorem orderOfChecks : Obligations.OrderOfChecks := by
  intro s p rest hp hwell
  obtain ⟨t, hstep⟩ := exists_step_of_wellPresented hp hwell
  obtain ⟨p', r, hpending, hr⟩ := eachStepGivesOneResult s t hstep
  have hrest : t.pending = rest := (List.cons.inj (hpending.symm.trans hp)).2
  obtain ⟨hreservedOp, hreservedBits⟩ := reservedEncodingsAreRefused s p rest hp
  refine ⟨t, r, hstep, hrest, hr, fun hop => result_eq_of_step hstep hr (hreservedOp hop) rfl,
    fun hbits => result_eq_of_step hstep hr (hreservedBits hbits) rfl, fun hop hbits => ?_⟩
  have result_of_decode {i : Instr} {u : State} {r' : OpResult} (hd : decode p = .ok i)
      (hexec : exec i { s with pending := rest } = .next u) (hr' : u.observed = s.observed ++ [r']) :
      r = r' :=
    result_eq_of_step hstep hr ((step_of_decode_ok hp hd).trans hexec) hr'
  refine ⟨fun hattach hs => ?_, fun hattach hs => ?_, fun hne hs => ?_, fun hprocess hs hlen => ?_,
    fun hprocess hs hlen => ?_, fun hdetach hs => ?_⟩
  · obtain ⟨v, wt, pct, shift, hd⟩ := decode_attach_of_wellPresented hwell hattach hbits
    exact result_of_decode hd
      (exec_attach_of_detached (s := { s with pending := rest }) hs v wt pct shift) rfl
  · obtain ⟨v, wt, pct, shift, hd⟩ := decode_attach_of_wellPresented hwell hattach hbits
    obtain ⟨d, hs⟩ := Lifecycle.exists_attached_of_ne_detached hs
    exact result_of_decode hd
      (exec_attach_of_attached (s := { s with pending := rest }) hs v wt pct shift) rfl
  · obtain ⟨hprocess, _, _, hdetach⟩ := detachedOperationsAreRefused { s with pending := rest } hs
    rcases opOf_cases p.word with hop' | hop' | hop' | hop'
    · exact absurd hop' hop
    · exact absurd hop' hne
    · exact result_of_decode (decode_process_of_wellPresented hwell hop' hbits) (hprocess p.payload) rfl
    · exact result_of_decode (decode_detach_of_wellPresented hwell hop' hbits) hdetach rfl
  · obtain ⟨d, hs⟩ := Lifecycle.exists_attached_of_ne_detached hs
    exact result_of_decode (decode_process_of_wellPresented hwell hprocess hbits)
      (malformedFrameLeavesDevice { s with pending := rest } d p.payload hs hlen) rfl
  · obtain ⟨d, hs⟩ := Lifecycle.exists_attached_of_ne_detached hs
    obtain ⟨x, hx⟩ := exists_decodeFrame_ok_of_length_eq_six hlen
    have hexec : exec (.process p.payload) { s with pending := rest } = .next (takeSample _ d x) :=
      congrArg Host.Outcome.next (processPayload_of_decodeFrame hs hx)
    exact ⟨_, result_of_decode (decode_process_of_wellPresented hwell hprocess hbits) hexec rfl⟩
  · obtain ⟨d, hs⟩ := Lifecycle.exists_attached_of_ne_detached hs
    exact result_of_decode (decode_detach_of_wellPresented hwell hdetach hbits)
      (exec_detach_of_attached hs) rfl

end Sys2Proof.Machine

/-! ## Power-on and the initial values (R170, R171) -/

namespace Sys2Proof.Machine

/-- Settles O1: power-on is the record whose life is Detached, so no `Device` stands in it. -/
theorem powerOnIsDetached : Obligations.PowerOnIsDetached := rfl

/-- Settles O3: ATTACH of a Detached device changes the life alone and then completes, and its fresh tracker
is the one of R171. -/
theorem attachInitialisesEveryField : Obligations.AttachInitialisesEveryField :=
  fun v wt pct shift _ hdetached => exec_attach_of_detached hdetached v wt pct shift

end Sys2Proof.Machine
